-- ==== Sys2Proof/Word.lean ====
section
/-! DEFINITION. The words of PN532-HS: bytes, byte sequences and timer registers. -/

namespace Sys2Proof

/-- A byte, an unsigned integer 0 to 255 (00_scope.md R9). -/
abbrev Byte := BitVec 8

/-- A byte sequence in wire order, index 0 first (00_scope.md R9, 20_memory.md R63). -/
abbrev Bytes := List Byte

/-- A timer register or a timeout operand: `TIMER_WIDTH` = 32 bits, in ticks (00_scope.md R8, 10_state.md R29). -/
abbrev Timer := BitVec 32

end Sys2Proof
end

