-- ==== Sys2Proof/Config.lean ====
section
/-! DEFINITION. What an implementation fixes (00_scope.md R8), the answers of the transport, and the free values.
The constants that the spec fixes are plain definitions. The parameters it leaves OPEN are the structure `Params`: a
state carries one (no step writes it), so a claim quantifies over all of them; the values that the reset state carries are
opaque constants. The free values are opaque functions of a counter: nothing can be proved of them. -/

namespace Sys2Proof

/-- The environment's answer to a `BusWrite` (20_memory.md R65). The `IoErr` information is opaque; its type is a
parameter, for which the spec offers a natural number (10_state.md R26). -/
inductive WriteAnswer where
  | ok
  | ioErr (info : Nat)
  deriving DecidableEq, Repr, Inhabited

/-- The environment's answer to a `BusRead` (20_memory.md R66). -/
inductive ReadAnswer where
  | ok (buf : Bytes)
  | ioErr (info : Nat)
  deriving DecidableEq, Repr, Inhabited

/-- The OPEN parameters of 00_scope.md R8 (the first four) and of the controller layer (43_controller_sequences.md R224,
R226, R229). The bounds R8 states are part of the types, so no claim needs them as a hypothesis. -/
structure Params where
  /-- `READY_MASK`, 8 bits, non-zero (R8, 20_memory.md R67). -/
  readyMask : { m : Byte // m ≠ 0 }
  /-- `POLL_INTERVAL`, ticks, at least 1 (R8). -/
  pollInterval : { p : Nat // 0 < p }
  /-- `T_RESP_DEFAULT`, ticks (R8). -/
  tRespDefault : Timer
  /-- `I2C_ADDR`, 7 bits (R8, 20_memory.md R62); no rule depends on its value. -/
  i2cAddr : BitVec 7
  /-- `SAM_PAYLOAD` (R224). -/
  samPayload : { p : Bytes // p.length ≤ 252 }
  /-- `RF_PAYLOAD` (R224). -/
  rfPayload : { p : Bytes // p.length ≤ 252 }
  /-- `LIST_PAYLOAD` (R226). -/
  listPayload : { p : Bytes // p.length ≤ 252 }
  /-- `PD_MASK`, one byte (R229). -/
  pdMask : Byte
  deriving DecidableEq, Repr

namespace Config

/-- `TICK_MS` (00_scope.md R8): one tick is one millisecond. -/
abbrev tickMs : Nat := 1
/-- `T_ACK_DEFAULT`, ticks (00_scope.md R8). -/
abbrev tAckDefault : Timer := 1000
/-- `ACK_READ_LEN` (00_scope.md R8): one status byte and the six-byte ACK. -/
abbrev ackReadLen : Nat := 7
/-- `RESP_READ_LEN` (00_scope.md R8): one status byte and the longest normal frame. -/
abbrev respReadLen : Nat := 263
/-- `MAX_PAYLOAD` (00_scope.md R8, 90_conflicts.md C3). -/
abbrev maxPayload : Nat := 252
/-- `MIN_FRAME` (00_scope.md R8). -/
abbrev minFrame : Nat := 9
/-- `ACK_LEN` (00_scope.md R8). -/
abbrev ackLen : Nat := 6
/-- `RESP_DELTA` (00_scope.md R8, 30_encoding.md R98). -/
abbrev respDelta : Byte := 1
/-- `OP_POWERDOWN` (00_scope.md R8). -/
abbrev opPowerdown : Byte := 0x16
/-- `TFI_H2C` (00_scope.md R8, 30_encoding.md R95). -/
abbrev tfiH2C : Byte := 0xD4
/-- `TFI_C2H` (00_scope.md R8, 30_encoding.md R95). -/
abbrev tfiC2H : Byte := 0xD5
/-- The longest frame a one-byte LEN describes, `255 + 7` bytes (40_framecodec.md R139). -/
abbrev maxFrame : Nat := 262

/-! The OPEN parameters at reset: no value (log entry 1). A bound that R8 states is met by construction, and every value
within the bound remains possible. -/

opaque readyMaskRaw : Byte
opaque pollIntervalRaw : Nat
opaque tRespDefaultRaw : Timer
opaque i2cAddrRaw : BitVec 7
opaque samPayloadRaw : Bytes
opaque rfPayloadRaw : Bytes
opaque listPayloadRaw : Bytes
opaque pdMaskRaw : Byte

/-- A payload within `MAX_PAYLOAD`. -/
def clipPayload (p : Bytes) : { p : Bytes // p.length ≤ 252 } :=
  ⟨p.take 252, List.length_take_le _ _⟩

/-- The configuration the reset state carries. -/
def params : Params where
  readyMask := if h : readyMaskRaw = 0 then ⟨1, by decide⟩ else ⟨readyMaskRaw, h⟩
  pollInterval := ⟨pollIntervalRaw + 1, Nat.succ_pos _⟩
  tRespDefault := tRespDefaultRaw
  i2cAddr := i2cAddrRaw
  samPayload := clipPayload samPayloadRaw
  rfPayload := clipPayload rfPayloadRaw
  listPayload := clipPayload listPayloadRaw
  pdMask := pdMaskRaw

/-! Free values, applied to the counter `draws` of the state (log entries 2, 6 and 12). -/

/-- The environment's answer to a bus write for which the state lists none (20_memory.md R66, R75). -/
opaque freeWrite : Nat → WriteAnswer
/-- The environment's answer to a bus read for which the state lists none (20_memory.md R66, R75). -/
opaque freeRead : Nat → ReadAnswer
/-- The bits of the status byte other than the ready bit (20_memory.md R67, 93_implementation_defined.md U6). -/
opaque freeStatus : Nat → Byte
/-- The `tag_kind` of a listed target, whose values the spec does not give (43_controller_sequences.md R227). -/
opaque freeTagKind : Nat → Nat

end Config

end Sys2Proof
end

