-- ==== Sys2Proof/Syntax.lean ====
section
/-! DEFINITION. The operations and frames of PN532-HS, one constructor per row of opcode_table.json (30_encoding.md R118,
R92, R91, R103, R104), and the value that `DECODE` answers with. -/

namespace Sys2Proof

/-- The sub-cause of a `MalformedFrame`, the values of `ERR_SUB` (10_state.md R25). -/
inductive ErrSub where
  | none
  | tooShort
  | badPreamble
  | badStartCode
  | badLcs
  | truncated
  | badTfi
  | badDcs
  | badPostamble
  | badDirection
  deriving DecidableEq, Repr

/-- What `DECODE` returns (40_framecodec.md R137): `Ok(tfi, opcode, payload)`, `Err(UnexpectedAck)` or
`Err(MalformedFrame, sub)`. -/
inductive DecodeResult where
  | ok (tfi opcode : Byte) (payload : Bytes)
  | unexpectedAck
  | malformed (sub : ErrSub)
  deriving DecidableEq, Repr

/-- The operations (30_encoding.md R118) and the wire frames (30_encoding.md R90).

The operands are the ones of R118 and of the table. A frame constructor carries the fields that are not computed (the
opcode where the row does not fix it, the payload) and `tail`, the bytes that follow the frame in the buffer it stands in
(30_encoding.md R93, "followed possibly by filler bytes"); LEN, LCS, DCS, preamble, start code and postamble are computed. -/
inductive Instr where
  | lcs (len : Byte)
  | dcs (tfi : Byte) (data : Bytes)
  | encode (opcode : Byte) (payload : Bytes)
  | isAck (b : Bytes)
  | decode (b : Bytes)
  | start (opcode : Byte) (payload : Bytes) (tAck tResp : Option Timer)
  | pollAck
  | pollResp
  | tick
  | wake
  | reset
  | getfw
  | setup
  | list (t : Timer)
  | pwrdown
  | ackFrame (tail : Bytes)
  | infoFrame (tfi opcode : Byte) (payload tail : Bytes)
  | cmdGetFirmwareVersion (payload tail : Bytes)
  | cmdSAMConfiguration (payload tail : Bytes)
  | cmdPowerDown (payload tail : Bytes)
  | cmdRFConfiguration (payload tail : Bytes)
  | cmdInListPassiveTarget (payload tail : Bytes)
  | rspGetFirmwareVersion (payload tail : Bytes)
  | rspSAMConfiguration (payload tail : Bytes)
  | rspPowerDown (payload tail : Bytes)
  | rspRFConfiguration (payload tail : Bytes)
  | rspInListPassiveTarget (payload tail : Bytes)
  deriving DecidableEq, Repr

end Sys2Proof
end

