-- ==== Sys2Proof/Machine/State.lean ====
section
/-! DEFINITION. The state of one instance of PN532-HS: the fifteen registers of 10_state.md R20 and, beside them, the
model's own fields (configuration, the environment's answers, the bus trace, the host's pending events, the result port).
Faults and refusals, and the state after reset. -/

namespace Sys2Proof.Machine

/-- `DEVSTATE`, the cached device state (10_state.md R21). The reserved codes are never produced and have no constructor. -/
inductive DevState where
  | poweredDown
  | idle
  | awaitingAck
  | awaitingResponse
  | error
  deriving DecidableEq, Repr

/-- `TXSTATE`, the transaction sequencer (10_state.md R22). -/
inductive TxState where
  | idle
  | ackWait
  | responseWait
  | done
  | failed
  deriving DecidableEq, Repr

/-- `ERR`, the error kinds (10_state.md R24). The last two exist at the controller layer only and are never written to
`ERR`. -/
inductive ErrKind where
  | none
  | ioError
  | ackTimeout
  | ackMismatch
  | responseTimeout
  | malformedFrame
  | opcodeMismatch
  | unexpectedAck
  | deviceAsleep
  | protocolError
  | setupFailed
  deriving DecidableEq, Repr

/-- One event of the bus trace, with the address, the operand and the answer (20_memory.md R70, 10_state.md R38). -/
inductive BusEvent where
  | write (addr : BitVec 7) (bytes : Bytes) (answer : WriteAnswer)
  | read (addr : BitVec 7) (maxLen : Nat) (answer : ReadAnswer)
  deriving DecidableEq, Repr

/-- A detected tag (43_controller_sequences.md R227). `tagKind` has no values in the spec. -/
structure Target where
  tagKind : Nat
  uid : Bytes
  atqa : Byte × Byte
  sak : Byte
  deriving DecidableEq, Repr

/-- The sub-command that a failed `SETUP` names (43_controller_sequences.md R225). -/
inductive SetupStep where
  | samConfiguration
  | rfConfiguration
  deriving DecidableEq, Repr

/-- What a codec function or a macro-sequence returns to its caller (10_state.md R38, 43_controller_sequences.md R220). -/
inductive Result where
  /-- Nothing has been returned yet. -/
  | nothing
  /-- `LCS`, `DCS`. -/
  | byte (b : Byte)
  /-- `ENCODE`. -/
  | frame (b : Bytes)
  /-- `IS_ACK`. -/
  | flag (b : Bool)
  /-- `DECODE`. -/
  | decoded (r : DecodeResult)
  /-- `GETFW` (R221). -/
  | firmware (ic ver rev support : Byte)
  /-- `LIST` (R226). -/
  | targets (ts : List Target)
  /-- `SETUP` or `PWRDOWN` succeeded (R223, R229). -/
  | success
  /-- An error kind (R220). -/
  | failed (k : ErrKind)
  /-- `SetupFailed{step}` (R225). -/
  | setupFailed (step : SetupStep)
  deriving DecidableEq, Repr

/-- An event that the host hands to the block: an operation (no binary encoding, 30_encoding.md R118), or bytes on the
wire, which the decoder reads. -/
inductive Input where
  | op (i : Instr)
  | wire (b : Bytes)
  deriving DecidableEq, Repr

/-- Why the machine stops. -/
inductive Fault where
  /-- The step does not exist in this state: `POLL_ACK`, `POLL_RESP` or `TICK` where its rule says it is not enabled
  (41_handshake.md R164, R173, R170; R160 "No other transition exists"). Raised by `execPollAck`, `execPollResp` and
  `execTick`. Safe: the hardware takes no such step. -/
  | stepNotEnabled
  deriving DecidableEq, Repr

/-- Why the model gives no meaning. -/
inductive Refusal where
  /-- An instruction without a meaning, by its mnemonic. Raised by `exec` only. Safe. -/
  | notModelled (mnemonic : String)
  /-- `refuse Busy`: a `START` while a transaction is in flight (41_handshake.md R162, 60_exceptions.md R264). Raised by
  every operation that issues a `START`. Safe. -/
  | busy
  /-- `refuse EncodeOverflow`: a payload above `MAX_PAYLOAD` (30_encoding.md R111, 60_exceptions.md R264). Raised by
  `ENCODE` and by every operation that issues a `START`. Safe. -/
  | encodeOverflow
  deriving DecidableEq, Repr

/-- The state. The first fifteen fields are the registers of 10_state.md R20; the others are the model's own. -/
structure State where
  /-- `DEVSTATE` (R21). -/
  devstate : DevState
  /-- `TXSTATE` (R22). -/
  txstate : TxState
  /-- `CMD_OPCODE` (R27). -/
  cmdOpcode : Byte
  /-- `CMD_PAYLOAD` (R27). -/
  cmdPayload : Bytes
  /-- `TXBUF` (R28). -/
  txbuf : Bytes
  /-- `T_ACK` (R29). -/
  tAck : Timer
  /-- `T_RESP` (R29). -/
  tResp : Timer
  /-- `ELAPSED` (R30). -/
  elapsed : Timer
  /-- `NEXTPOLL` (R31). -/
  nextpoll : Timer
  /-- `RETRY_LEFT` (R32). -/
  retryLeft : Bool
  /-- `RESP_OPCODE` (R33). -/
  respOpcode : Byte
  /-- `RESP_PAYLOAD` (R33). -/
  respPayload : Bytes
  /-- `ERR` (R24). -/
  err : ErrKind
  /-- `ERR_SUB` (R25). -/
  errSub : ErrSub
  /-- `IOERR_INFO` (R26). -/
  ioerrInfo : Nat
  /-- The configuration (00_scope.md R8); no step writes it. -/
  params : Params
  /-- The environment's answers to the next bus writes, first answer first (20_memory.md R65). -/
  writeAns : List WriteAnswer
  /-- The environment's answers to the next bus reads, first answer first (20_memory.md R66). -/
  readAns : List ReadAnswer
  /-- How many free values have been drawn. -/
  draws : Nat
  /-- The bus trace, oldest event first (20_memory.md R70). -/
  trace : List BusEvent
  /-- The events the host has handed over, oldest first (10_state.md R38). -/
  pending : List Input
  /-- The result port: what was returned last (10_state.md R38). -/
  ret : Result
  deriving DecidableEq, Repr

/-- The state right after reset (10_state.md R45; `IOERR_INFO` and the model's own fields: log entries 1, 2, 5, 10, 11). -/
def State.reset : State where
  devstate := .idle
  txstate := .idle
  cmdOpcode := 0
  cmdPayload := []
  txbuf := []
  tAck := Config.tAckDefault
  tResp := Config.params.tRespDefault
  elapsed := 0
  nextpoll := 0
  retryLeft := false
  respOpcode := 0
  respPayload := []
  err := .none
  errSub := .none
  ioerrInfo := 0
  params := Config.params
  writeAns := []
  readAns := []
  draws := 0
  trace := []
  pending := []
  ret := .nothing

end Sys2Proof.Machine
end

