-- ==== Sys2Proof/Machine/Flags.lean ====
section
/-! DEFINITION. The status conditions of the block, all derived from registers (10_state.md R36), the ready bit of a read
buffer (20_memory.md R67), the short-read tests (R68), the enabling conditions of the steps (41_handshake.md R164, R170,
R173), and the numeric codes of the state and error registers (10_state.md R21, R22, R24, R25). -/

namespace Sys2Proof.Machine

/-- `BUSY = (TXSTATE in {AckWait, ResponseWait})` (10_state.md R36). -/
def State.busy (s : State) : Bool :=
  match s.txstate with
  | .ackWait => true
  | .responseWait => true
  | .idle => false
  | .done => false
  | .failed => false

/-- `DONE` (10_state.md R36). -/
def State.isDone (s : State) : Bool := s.txstate == .done

/-- `FAILED` (10_state.md R36). -/
def State.isFailed (s : State) : Bool := s.txstate == .failed

/-- `ASLEEP` (10_state.md R36). -/
def State.asleep (s : State) : Bool := s.devstate == .poweredDown

/-- The chip is ready in a read buffer: it has a status byte and the masked bit is set (20_memory.md R67). -/
def bufReady (mask : Byte) (buf : Bytes) : Bool :=
  match buf with
  | [] => false
  | status :: _ => status &&& mask != 0

/-- A read buffer that an ACK poll examines: not short (20_memory.md R68) and ready (R67). -/
def ackUsable (mask : Byte) (buf : Bytes) : Bool := Config.ackReadLen ≤ buf.length && bufReady mask buf

/-- A read buffer that a response poll decodes: not short (20_memory.md R68) and ready (R67). -/
def respUsable (mask : Byte) (buf : Bytes) : Bool := 1 + Config.minFrame ≤ buf.length && bufReady mask buf

/-- `POLL_ACK` is enabled (41_handshake.md R164). -/
def State.pollAckDue (s : State) : Bool := s.txstate == .ackWait && s.elapsed == s.nextpoll

/-- `POLL_RESP` is enabled (41_handshake.md R173). -/
def State.pollRespDue (s : State) : Bool := s.txstate == .responseWait && s.elapsed == s.nextpoll

/-- `TICK` is enabled (41_handshake.md R170). -/
def State.tickEnabled (s : State) : Bool := !s.busy || decide (s.elapsed.toNat < s.nextpoll.toNat)

/-- The code of `DEVSTATE` (10_state.md R21). -/
def DevState.code : DevState → BitVec 3
  | .poweredDown => 0
  | .idle => 1
  | .awaitingAck => 2
  | .awaitingResponse => 3
  | .error => 4

/-- The code of `TXSTATE` (10_state.md R22). -/
def TxState.code : TxState → BitVec 3
  | .idle => 0
  | .ackWait => 1
  | .responseWait => 2
  | .done => 3
  | .failed => 4

/-- The code of `ERR` (10_state.md R24). -/
def ErrKind.code : ErrKind → BitVec 4
  | .none => 0
  | .ioError => 1
  | .ackTimeout => 2
  | .ackMismatch => 3
  | .responseTimeout => 4
  | .malformedFrame => 5
  | .opcodeMismatch => 6
  | .unexpectedAck => 7
  | .deviceAsleep => 8
  | .protocolError => 9
  | .setupFailed => 10

/-- The code of `ERR_SUB` (10_state.md R25). -/
def errSubCode : ErrSub → BitVec 4
  | .none => 0
  | .tooShort => 1
  | .badPreamble => 2
  | .badStartCode => 3
  | .badLcs => 4
  | .truncated => 5
  | .badTfi => 6
  | .badDcs => 7
  | .badPostamble => 8
  | .badDirection => 9

end Sys2Proof.Machine
end

