-- ==== Sys2Proof/Machine/Codec.lean ====
section
/-! DEFINITION. The frame codec as pure functions (40_framecodec.md): both checksums, the encoder, ACK detection and the
decoder. They read and write no register. -/

namespace Sys2Proof.Machine

/-- 8-bit two's complement (00_scope.md R10). -/
def neg8 (x : Nat) : Byte := BitVec.ofNat 8 ((256 - x % 256) % 256)

/-- The sum of the bytes as a natural number (00_scope.md R10). -/
def sumBytes (b : Bytes) : Nat := (b.map BitVec.toNat).sum

/-- `LCS(len)` (40_framecodec.md R130). -/
def lcsOf (len : Byte) : Byte := neg8 len.toNat

/-- `lcs_ok(len, lcs)` (40_framecodec.md R130). -/
def lcsOk (len lcs : Byte) : Bool := (len.toNat + lcs.toNat) % 256 == 0

/-- `DCS(tfi, data)` (40_framecodec.md R131). -/
def dcsOf (tfi : Byte) (data : Bytes) : Byte := neg8 (tfi.toNat + sumBytes data)

/-- `dcs_ok(tfi, data, dcs)` (40_framecodec.md R131). -/
def dcsOk (tfi : Byte) (data : Bytes) (dcs : Byte) : Bool :=
  (tfi.toNat + sumBytes data + dcs.toNat) % 256 == 0

/-- The ACK sentinel (30_encoding.md R92). -/
def ackSentinel : Bytes := [0x00, 0x00, 0xFF, 0x00, 0xFF, 0x00]

/-- `IS_ACK(b)` (40_framecodec.md R135): a match of the first six bytes. -/
def isAckBytes (b : Bytes) : Bool := Config.ackLen ≤ b.length && b.take Config.ackLen == ackSentinel

/-- The information frame with the given TFI, opcode and payload (30_encoding.md R91, R94, R97). The LEN byte is
`len(payload) + 2`. -/
def infoFrameBytes (tfi opcode : Byte) (payload : Bytes) : Bytes :=
  let len : Byte := BitVec.ofNat 8 (payload.length + 2)
  [0x00, 0x00, 0xFF, len, lcsOf len, tfi] ++ (opcode :: payload) ++ [dcsOf tfi (opcode :: payload), 0x00]

/-- `ENCODE(opcode, payload)` (40_framecodec.md R133); no frame for a payload above `MAX_PAYLOAD` (30_encoding.md R111). -/
def encodeFrame (opcode : Byte) (payload : Bytes) : Option Bytes :=
  if payload.length ≤ Config.maxPayload then some (infoFrameBytes Config.tfiH2C opcode payload) else none

/-- `b[i]` (00_scope.md R9), read only below `len(b)` (40_framecodec.md R138). -/
def byteAt (b : Bytes) (i : Nat) : Byte := b.getD i 0

/-- `b[i..j)` (00_scope.md R9). -/
def slice (b : Bytes) (i j : Nat) : Bytes := (b.drop i).take (j - i)

/-- `DECODE(b)` (40_framecodec.md R137), the eleven steps in the order written. -/
def decodeFrame (b : Bytes) : DecodeResult :=
  let L := (byteAt b 3).toNat
  if isAckBytes b then .unexpectedAck
  else if b.length < Config.minFrame then .malformed .tooShort
  else if byteAt b 0 ≠ 0x00 then .malformed .badPreamble
  else if byteAt b 1 ≠ 0x00 ∨ byteAt b 2 ≠ 0xFF then .malformed .badStartCode
  else if ((byteAt b 3).toNat + (byteAt b 4).toNat) % 256 ≠ 0 then .malformed .badLcs
  else if L < 2 then .malformed .tooShort
  else if b.length < L + 7 then .malformed .truncated
  else if byteAt b 5 ≠ Config.tfiH2C ∧ byteAt b 5 ≠ Config.tfiC2H then .malformed .badTfi
  else if (sumBytes (slice b 5 (5 + L)) + (byteAt b (5 + L)).toNat) % 256 ≠ 0 then .malformed .badDcs
  else if byteAt b (6 + L) ≠ 0x00 then .malformed .badPostamble
  else .ok (byteAt b 5) (byteAt b 6) (slice b 7 (5 + L))

end Sys2Proof.Machine
end

