-- ==== Sys2Proof/Machine/Operands.lean ====
section
/-! DEFINITION. The operand forms: the optional timeouts of `START` (41_handshake.md R161), the payload bound (R162 gate 3),
the expected response opcode (30_encoding.md R98), and the targets of a list response (43_controller_sequences.md R227). -/

namespace Sys2Proof.Machine

/-- `t_ack if given, else T_ACK_DEFAULT` (41_handshake.md R161). -/
def ackTimeoutOperand (t : Option Timer) : Timer := t.getD Config.tAckDefault

/-- `t_resp if given, else T_RESP_DEFAULT` (41_handshake.md R161). -/
def respTimeoutOperand (p : Params) (t : Option Timer) : Timer := t.getD p.tRespDefault

/-- `len(payload) > MAX_PAYLOAD` (41_handshake.md R162 gate 3). -/
def payloadTooLong (payload : Bytes) : Bool := decide (Config.maxPayload < payload.length)

/-- `(CMD_OPCODE + RESP_DELTA) mod 256` (30_encoding.md R98). -/
def expectedResponse (cmdOpcode : Byte) : Byte := cmdOpcode + Config.respDelta

/-- One target of a list payload and the bytes after it: UID length, UID, two ATQA bytes, SAK (43_controller_sequences.md
R227). No value when the payload ends inside the target. -/
def parseTarget (tagKind : Nat) (b : Bytes) : Option (Target × Bytes) :=
  match b with
  | [] => none
  | k :: r =>
    match r.drop k.toNat with
    | a0 :: a1 :: sak :: rest => some (⟨tagKind, r.take k.toNat, (a0, a1), sak⟩, rest)
    | _ => none

/-- `n` targets in a row; the `tag_kind` of each is a fresh free value (log entry 12). -/
def parseTargetsFrom (draw : Nat) : Nat → Bytes → Option (List Target)
  | 0, _ => some []
  | n + 1, b =>
    match parseTarget (Config.freeTagKind draw) b with
    | none => none
    | some (t, rest) => (parseTargetsFrom (draw + 1) n rest).map (t :: ·)

/-- `parse_targets(p)` (43_controller_sequences.md R227): the count byte, then the targets; `none` is `ProtocolError`. -/
def parseTargets (draw : Nat) (p : Bytes) : Option (List Target) :=
  match p with
  | [] => none
  | n :: r => parseTargetsFrom draw n.toNat r

end Sys2Proof.Machine
end

