-- ==== Sys2Proof/Machine/Ops.lean ====
section
/-! DEFINITION. The shared operations: the bus primitives (20_memory.md R65, R66), failing (60_exceptions.md R262), the
refusals of `START` (41_handshake.md R162), and the writes that several operations make. -/

namespace Sys2Proof.Machine

/-! ### The transport -/

/-- The answer that the next `BusWrite` gets: the first listed one, else a free value (20_memory.md R65; log entry 2). -/
def State.nextWrite (s : State) : WriteAnswer :=
  match s.writeAns with
  | [] => Config.freeWrite s.draws
  | a :: _ => a

/-- A read answer restricted to what the transport may give: at most `n` bytes (20_memory.md R75; log entry 3). -/
def clipAnswer (n : Nat) : ReadAnswer → ReadAnswer
  | .ok buf => .ok (buf.take n)
  | .ioErr info => .ioErr info

/-- The answer that the next `BusRead(n)` gets: the first listed one, else a free value, restricted to `n` bytes
(20_memory.md R66, R75). -/
def State.nextRead (s : State) (n : Nat) : ReadAnswer :=
  match s.readAns with
  | [] => clipAnswer n (Config.freeRead s.draws)
  | a :: _ => clipAnswer n a

/-- `BusWrite(b)` (20_memory.md R65): the state after it. The event goes to the trace with its answer `s.nextWrite`. -/
def State.afterWrite (s : State) (b : Bytes) : State :=
  { s with
    trace := s.trace ++ [.write s.params.i2cAddr b s.nextWrite]
    writeAns := s.writeAns.tail
    draws := if s.writeAns.isEmpty then s.draws + 1 else s.draws }

/-- `BusRead(n)` (20_memory.md R66): the state after it. The event goes to the trace with its answer `s.nextRead n`. -/
def State.afterRead (s : State) (n : Nat) : State :=
  { s with
    trace := s.trace ++ [.read s.params.i2cAddr n (s.nextRead n)]
    readAns := s.readAns.tail
    draws := if s.readAns.isEmpty then s.draws + 1 else s.draws }

/-! ### Failing: the analogue of taking an exception -/

/-- The failures that `raise` takes, with what each records (60_exceptions.md R251). -/
inductive Failure where
  | ioError (info : Nat)
  | ackTimeout
  | ackMismatch
  | responseTimeout
  | malformedFrame (sub : ErrSub)
  | opcodeMismatch
  | unexpectedAck
  deriving DecidableEq, Repr

/-- The error kind of a failure (60_exceptions.md R251). -/
def Failure.kind : Failure → ErrKind
  | .ioError _ => .ioError
  | .ackTimeout => .ackTimeout
  | .ackMismatch => .ackMismatch
  | .responseTimeout => .responseTimeout
  | .malformedFrame _ => .malformedFrame
  | .opcodeMismatch => .opcodeMismatch
  | .unexpectedAck => .unexpectedAck

/-- The sub-cause of a failure: `None` but for `MalformedFrame` (60_exceptions.md R262). -/
def Failure.sub : Failure → ErrSub
  | .ioError _ => .none
  | .ackTimeout => .none
  | .ackMismatch => .none
  | .responseTimeout => .none
  | .malformedFrame sub => sub
  | .opcodeMismatch => .none
  | .unexpectedAck => .none

/-- `IOERR_INFO` after a failure: `info` for `IoError`, otherwise unchanged (60_exceptions.md R262). -/
def Failure.infoOr (f : Failure) (old : Nat) : Nat :=
  match f with
  | .ioError info => info
  | .ackTimeout => old
  | .ackMismatch => old
  | .responseTimeout => old
  | .malformedFrame _ => old
  | .opcodeMismatch => old
  | .unexpectedAck => old

/-- `raise K(info)` (60_exceptions.md R262): exactly these five writes. There is no return from it; the host recovers by
`START`, `WAKE` or `RESET` (R266). -/
def State.raise (s : State) (f : Failure) : State :=
  { s with
    txstate := .failed
    err := f.kind
    errSub := f.sub
    ioerrInfo := f.infoOr s.ioerrInfo
    devstate := .error }

/-- The `DeviceAsleep` failure of `START` (41_handshake.md R162 gate 2): `DEVSTATE` stays `PoweredDown`, no bus access. -/
def State.failAsleep (s : State) : State :=
  { s with
    txstate := .failed
    err := .deviceAsleep
    errSub := .none
    respOpcode := 0
    respPayload := [] }

/-! ### Writes that several operations make -/

/-- Entry to `AckWait` (41_handshake.md R161): the timer of the phase starts, the first poll is enabled at once. -/
def State.enterAckWait (s : State) : State :=
  { s with txstate := .ackWait, devstate := .awaitingAck, elapsed := 0, nextpoll := 0 }

/-- Entry to `ResponseWait` (41_handshake.md R166). -/
def State.enterResponseWait (s : State) : State :=
  { s with txstate := .responseWait, devstate := .awaitingResponse, elapsed := 0, nextpoll := 0 }

/-- The registers that an accepted `START` latches, before it writes to the bus (41_handshake.md R161). -/
def State.latchCommand (s : State) (op : Byte) (p : Bytes) (tAck tResp : Option Timer) : State :=
  { s with
    cmdOpcode := op
    cmdPayload := p
    txbuf := infoFrameBytes Config.tfiH2C op p
    tAck := ackTimeoutOperand tAck
    tResp := respTimeoutOperand s.params tResp
    retryLeft := true
    respOpcode := 0
    respPayload := []
    err := .none
    errSub := .none }

/-- `NEXTPOLL <- min(e + POLL_INTERVAL, T)` (41_handshake.md R165, R173), computed on natural numbers (30_encoding.md
R101). -/
def State.schedulePoll (s : State) (limit : Timer) : State :=
  { s with nextpoll := BitVec.ofNat 32 (min (s.elapsed.toNat + s.params.pollInterval.val) limit.toNat) }

/-- The value on the result port (10_state.md R38). -/
def State.returning (s : State) (r : Result) : State := { s with ret := r }

/-- Every register at its reset value (10_state.md R45, 42_system.md R203); the configuration, the environment's answers,
the trace, the pending events and the result port are not registers and stay. -/
def State.resetRegisters (s : State) : State :=
  { s with
    devstate := .idle
    txstate := .idle
    cmdOpcode := 0
    cmdPayload := []
    txbuf := []
    tAck := Config.tAckDefault
    tResp := s.params.tRespDefault
    elapsed := 0
    nextpoll := 0
    retryLeft := false
    respOpcode := 0
    respPayload := []
    err := .none
    errSub := .none
    ioerrInfo := 0 }

/-- An answer that the chip has ready for the next read (20_memory.md R66, 70_reset_and_hazards.md R301: a chip holding an
unread frame presents it to the next poll): a status byte with the ready bit set, its other bits a free value (R67), then
the bytes. -/
def State.present (s : State) (b : Bytes) : State :=
  { s with
    readAns := .ok ((Config.freeStatus s.draws ||| s.params.readyMask.val) :: b) :: s.readAns
    draws := s.draws + 1 }

end Sys2Proof.Machine
end

