-- ==== Sys2Proof/Machine/Handshake.lean ====
section
/-! DEFINITION. The handshake controller (41_handshake.md): `START`, `POLL_ACK`, `POLL_RESP`, `TICK`. -/

namespace Sys2Proof.Machine

/-! ### START -/

/-- The gates of `START` that refuse, in the order of R162: `Busy`; then, unless the device sleeps (gate 2 comes before
gate 3), `EncodeOverflow`. -/
def startRefusal (payload : Bytes) (s : State) : Option Refusal :=
  if s.busy then some .busy
  else if s.asleep then none
  else if payloadTooLong payload then some .encodeOverflow
  else none

/-- The write of the latched frame, and what its answer leads to (R161, R163). -/
def sendCommand (s : State) : State :=
  match s.nextWrite with
  | .ok => (s.afterWrite s.txbuf).enterAckWait
  | .ioErr info => (s.afterWrite s.txbuf).raise (.ioError info)

/-- `START` once no gate refuses: the `DeviceAsleep` failure (R162 gate 2), or latch and send (R161). -/
def startTaken (op : Byte) (p : Bytes) (tAck tResp : Option Timer) (s : State) : State :=
  if s.asleep then s.failAsleep else sendCommand (s.latchCommand op p tAck tResp)

/-- `START(opcode, payload, t_ack?, t_resp?)` as a shared operation (R161 to R163). -/
def startOp (op : Byte) (p : Bytes) (tAck tResp : Option Timer) (s : State) : Host.Outcome State Fault Refusal :=
  match startRefusal p s with
  | some r => .refused r
  | none => .next (startTaken op p tAck tResp s)

/-- `START` (R161). -/
def execStart (op : Byte) (p : Bytes) (tAck tResp : Option Timer) (s : State) : Host.Outcome State Fault Refusal :=
  startOp op p tAck tResp s

/-! ### POLL_ACK -/

/-- The deadline of the ACK wait (R168): the silent retry while one is left, else `AckTimeout`. -/
def ackDeadline (s : State) : State :=
  if s.retryLeft then
    match s.nextWrite with
    | .ok => { s.afterWrite s.txbuf with retryLeft := false, elapsed := 0, nextpoll := 0 }
    | .ioErr info => ({ s.afterWrite s.txbuf with retryLeft := false } : State).raise (.ioError info)
  else s.raise .ackTimeout

/-- `not_ready_ack(e)` (R165, R168). By R172 `ELAPSED` never exceeds `T_ACK`, so the second branch is `e = T_ACK`. -/
def notReadyAck (s : State) : State :=
  if s.elapsed.toNat < s.tAck.toNat then s.schedulePoll s.tAck else ackDeadline s

/-- What an ACK poll does with its buffer (R164, R166, R167). -/
def examineAck (buf : Bytes) (s : State) : State :=
  if !ackUsable s.params.readyMask.val buf then notReadyAck s
  else if isAckBytes (slice buf 1 7) then s.enterResponseWait
  else s.raise .ackMismatch

/-- The poll for the ACK (R164). -/
def pollAck (s : State) : State :=
  match s.nextRead Config.ackReadLen with
  | .ioErr info => (s.afterRead Config.ackReadLen).raise (.ioError info)
  | .ok buf => examineAck buf (s.afterRead Config.ackReadLen)

/-- `POLL_ACK` (R164), where it is enabled. -/
def execPollAck (s : State) : Host.Outcome State Fault Refusal :=
  if s.pollAckDue then .next (pollAck s) else .fault .stepNotEnabled

/-! ### POLL_RESP -/

/-- Completion (R176): the result is latched; a power-down command puts the block to sleep. -/
def complete (op : Byte) (payload : Bytes) (s : State) : State :=
  { s with
    respOpcode := op
    respPayload := payload
    txstate := .done
    devstate := if s.cmdOpcode = Config.opPowerdown then .poweredDown else .idle }

/-- `check_response(d)` (R174, R175, R176). -/
def checkResponse (d : DecodeResult) (s : State) : State :=
  match d with
  | .unexpectedAck => s.raise .unexpectedAck
  | .malformed sub => s.raise (.malformedFrame sub)
  | .ok tfi op payload =>
    if tfi ≠ Config.tfiC2H then s.raise (.malformedFrame .badDirection)
    else if op ≠ expectedResponse s.cmdOpcode then s.raise .opcodeMismatch
    else complete op payload s

/-- A response poll that finds nothing to decode (R173): wait on, or `ResponseTimeout` at the deadline. -/
def notReadyResp (s : State) : State :=
  if s.elapsed.toNat < s.tResp.toNat then s.schedulePoll s.tResp else s.raise .responseTimeout

/-- What a response poll does with its buffer (R173). -/
def examineResp (buf : Bytes) (s : State) : State :=
  if !respUsable s.params.readyMask.val buf then notReadyResp s
  else checkResponse (decodeFrame (buf.drop 1)) s

/-- The poll for the response (R173). -/
def pollResp (s : State) : State :=
  match s.nextRead Config.respReadLen with
  | .ioErr info => (s.afterRead Config.respReadLen).raise (.ioError info)
  | .ok buf => examineResp buf (s.afterRead Config.respReadLen)

/-- `POLL_RESP` (R173), where it is enabled. -/
def execPollResp (s : State) : Host.Outcome State Fault Refusal :=
  if s.pollRespDue then .next (pollResp s) else .fault .stepNotEnabled

/-! ### TICK -/

/-- The passing of one tick (R170). -/
def tickState (s : State) : State :=
  if s.busy && decide (s.elapsed.toNat < s.nextpoll.toNat) then { s with elapsed := s.elapsed + 1 } else s

/-- `TICK` (R170), where it is enabled: not in a wait state whose poll is due. -/
def execTick (s : State) : Host.Outcome State Fault Refusal :=
  if s.tickEnabled then .next (tickState s) else .fault .stepNotEnabled

end Sys2Proof.Machine
end

