-- ==== Sys2Proof/Machine/Transact.lean ====
section
/-! DEFINITION. A transaction as one function (41_handshake.md R179): take `START`, then repeat the enabled poll step if
there is one, else `TICK`, until `TXSTATE` is `Done` or `Failed`. -/

namespace Sys2Proof.Machine

/-- The block's own next step while it waits: the poll that is due, else a tick (R179, R170). -/
def ownStep (s : State) : State :=
  if s.pollAckDue then pollAck s else if s.pollRespDue then pollResp s else tickState s

/-- Own steps until the transaction is over, at most `n` of them. -/
def runOwn : Nat → State → State
  | 0, s => s
  | n + 1, s => if s.busy then runOwn n (ownStep s) else s

/-- The steps that one wait phase with limit `t` can still take: two for each tick left, and one for a poll that is due. -/
def phaseBudget (s : State) (t : Timer) : Nat :=
  2 * (t.toNat - s.elapsed.toNat) + (if s.elapsed = s.nextpoll then 1 else 0)

/-- A bound on the steps until the transaction is over (R172): the current phase, the second attempt while a retry is left
(R168), and the response phase. -/
def stepBudget (s : State) : Nat :=
  match s.txstate with
  | .ackWait =>
    phaseBudget s s.tAck + (if s.retryLeft then 2 * s.tAck.toNat + 2 else 0) + (2 * s.tResp.toNat + 2)
  | .responseWait => phaseBudget s s.tResp
  | .idle => 0
  | .done => 0
  | .failed => 0

/-- The rest of the transaction in flight. -/
def settle (s : State) : State := runOwn (stepBudget s) s

/-- `transact(S, cmd, t_ack, t_resp, env)` (R179), where no gate of `START` refuses. -/
def transact (op : Byte) (p : Bytes) (tAck tResp : Option Timer) (s : State) : State :=
  settle (startTaken op p tAck tResp s)

end Sys2Proof.Machine
end

