-- ==== Sys2Proof/Machine/Controller.lean ====
section
/-! DEFINITION. The macro-sequences of the controller layer (43_controller_sequences.md): each is a series of `START`
operations run to `Done` or `Failed`, then a pure reading of `RESP_PAYLOAD`; the block's registers are changed only by the
`START`s, and the typed result goes to the result port (R220). A `START` that is refused refuses the operation. -/

namespace Sys2Proof.Machine

/-- What every macro-sequence returns for a transaction that ended `Failed(k)`: `k` unchanged (R220); otherwise what `r`
makes of the state. -/
def returnUnlessFailed (r : State → State) (s : State) : State :=
  if s.isFailed then s.returning (.failed s.err) else r s

/-- The reading of a firmware response (R221): four opaque bytes (R222), or `ProtocolError`. -/
def firmwareOf (p : Bytes) : Result :=
  match p with
  | [ic, ver, rev, support] => .firmware ic ver rev support
  | _ => .failed .protocolError

/-- `GETFW` (R221). -/
def execGetfw (s : State) : Host.Outcome State Fault Refusal :=
  match startRefusal [] s with
  | some r => .refused r
  | none => .next (returnUnlessFailed (fun t => t.returning (firmwareOf t.respPayload)) (transact 0x02 [] none none s))

/-- The second sub-command of `SETUP` (R223). -/
def setupRf (s : State) : State :=
  let t := transact 0x32 s.params.rfPayload.val none none s
  if t.isFailed then t.returning (.setupFailed .rfConfiguration) else t.returning .success

/-- `SETUP` (R223): fails fast on the first sub-command that fails (R225). -/
def execSetup (s : State) : Host.Outcome State Fault Refusal :=
  match startRefusal s.params.samPayload.val s with
  | some r => .refused r
  | none =>
    let t := transact 0x14 s.params.samPayload.val none none s
    .next (if t.isFailed then t.returning (.setupFailed .samConfiguration) else setupRf t)

/-- The reading of a list response (R226, R227): the targets, or `ProtocolError`. Each target's `tag_kind` is a free value,
so the counter advances by the number of targets. -/
def listTargets (s : State) : State :=
  match parseTargets s.draws s.respPayload with
  | some ts => { s.returning (.targets ts) with draws := s.draws + ts.length }
  | none => s.returning (.failed .protocolError)

/-- `LIST t` (R226): `t` bounds the response wait, the ACK timeout stays at its default. -/
def execList (t : Timer) (s : State) : Host.Outcome State Fault Refusal :=
  match startRefusal s.params.listPayload.val s with
  | some r => .refused r
  | none => .next (returnUnlessFailed listTargets (transact 0x4A s.params.listPayload.val none (some t) s))

/-- `PWRDOWN` (R229). -/
def execPwrdown (s : State) : Host.Outcome State Fault Refusal :=
  match startRefusal [s.params.pdMask] s with
  | some r => .refused r
  | none => .next (returnUnlessFailed (fun t => t.returning .success) (transact 0x16 [s.params.pdMask] none none s))

end Sys2Proof.Machine
end

