-- ==== Sys2Proof/Machine/FrameCodec.lean ====
section
/-! DEFINITION. The five codec functions as operations (40_framecodec.md): each returns its value on the result port and
touches no register and no bus (10_state.md R20, R38; 20_memory.md R61). -/

namespace Sys2Proof.Machine

/-- `LCS(len)` (R130). -/
def execLcs (len : Byte) (s : State) : Host.Outcome State Fault Refusal :=
  .next (s.returning (.byte (lcsOf len)))

/-- `DCS(tfi, data)` (R131). -/
def execDcs (tfi : Byte) (data : Bytes) (s : State) : Host.Outcome State Fault Refusal :=
  .next (s.returning (.byte (dcsOf tfi data)))

/-- `ENCODE(opcode, payload)` (R133): refused above `MAX_PAYLOAD` (30_encoding.md R111). -/
def execEncode (opcode : Byte) (payload : Bytes) (s : State) : Host.Outcome State Fault Refusal :=
  match encodeFrame opcode payload with
  | some b => .next (s.returning (.frame b))
  | none => .refused .encodeOverflow

/-- `IS_ACK(b)` (R135). -/
def execIsAck (b : Bytes) (s : State) : Host.Outcome State Fault Refusal :=
  .next (s.returning (.flag (isAckBytes b)))

/-- `DECODE(b)` (R137): the error results change no state either. -/
def execDecode (b : Bytes) (s : State) : Host.Outcome State Fault Refusal :=
  .next (s.returning (.decoded (decodeFrame b)))

end Sys2Proof.Machine
end

