-- ==== Sys2Proof/Machine/Frames.lean ====
section
/-! DEFINITION. The wire frames as events (30_encoding.md R90). A host-to-chip frame is produced by `ENCODE` and sent by
`START` (opcode_table.json's notes on the CMD rows; R103), so its meaning is the `START` of the command it carries, with
both timeouts absent. A chip-to-host frame is what the chip has ready (R104, R92): the poll that is due reads it, else the
chip holds it for the next read (70_reset_and_hazards.md R301). Log entry 6. -/

namespace Sys2Proof.Machine

/-- The chip has these bytes ready behind a ready status byte. -/
def receive (b : Bytes) (s : State) : State :=
  if s.pollAckDue then pollAck (s.present b)
  else if s.pollRespDue then pollResp (s.present b)
  else s.present b

/-- A host-to-chip information frame: the `START` that sends it. -/
def sendFrame (op : Byte) (payload : Bytes) (s : State) : Host.Outcome State Fault Refusal :=
  startOp op payload none none s

/-- A chip-to-host information frame and the bytes after it. -/
def receiveFrame (op : Byte) (payload tail : Bytes) (s : State) : Host.Outcome State Fault Refusal :=
  .next (receive (infoFrameBytes Config.tfiC2H op payload ++ tail) s)

/-- `ACK_FRAME` (R92). -/
def execAckFrame (tail : Bytes) (s : State) : Host.Outcome State Fault Refusal :=
  .next (receive (ackSentinel ++ tail) s)

/-- `INFO_FRAME` (R91): host to chip with TFI `0xD4` (R95); with any other TFI it can only come from the chip, and the
decoder judges it (R110). -/
def execInfoFrame (tfi op : Byte) (payload tail : Bytes) (s : State) : Host.Outcome State Fault Refusal :=
  if tfi = Config.tfiH2C then sendFrame op payload s
  else .next (receive (infoFrameBytes tfi op payload ++ tail) s)

/-- `CMD_GetFirmwareVersion` (R103). -/
def execCmdGetFirmwareVersion (payload : Bytes) (s : State) : Host.Outcome State Fault Refusal :=
  sendFrame 0x02 payload s

/-- `CMD_SAMConfiguration` (R103). -/
def execCmdSAMConfiguration (payload : Bytes) (s : State) : Host.Outcome State Fault Refusal :=
  sendFrame 0x14 payload s

/-- `CMD_PowerDown` (R103). -/
def execCmdPowerDown (payload : Bytes) (s : State) : Host.Outcome State Fault Refusal :=
  sendFrame 0x16 payload s

/-- `CMD_RFConfiguration` (R103). -/
def execCmdRFConfiguration (payload : Bytes) (s : State) : Host.Outcome State Fault Refusal :=
  sendFrame 0x32 payload s

/-- `CMD_InListPassiveTarget` (R103). -/
def execCmdInListPassiveTarget (payload : Bytes) (s : State) : Host.Outcome State Fault Refusal :=
  sendFrame 0x4A payload s

/-- `RSP_GetFirmwareVersion` (R104). -/
def execRspGetFirmwareVersion (payload tail : Bytes) (s : State) : Host.Outcome State Fault Refusal :=
  receiveFrame 0x03 payload tail s

/-- `RSP_SAMConfiguration` (R104). -/
def execRspSAMConfiguration (payload tail : Bytes) (s : State) : Host.Outcome State Fault Refusal :=
  receiveFrame 0x15 payload tail s

/-- `RSP_PowerDown` (R104). -/
def execRspPowerDown (payload tail : Bytes) (s : State) : Host.Outcome State Fault Refusal :=
  receiveFrame 0x17 payload tail s

/-- `RSP_RFConfiguration` (R104). -/
def execRspRFConfiguration (payload tail : Bytes) (s : State) : Host.Outcome State Fault Refusal :=
  receiveFrame 0x33 payload tail s

/-- `RSP_InListPassiveTarget` (R104). -/
def execRspInListPassiveTarget (payload tail : Bytes) (s : State) : Host.Outcome State Fault Refusal :=
  receiveFrame 0x4B payload tail s

end Sys2Proof.Machine
end

