-- ==== Sys2Proof/Machine/System.lean ====
section
/-! DEFINITION. The system operations (42_system.md): `WAKE` and `RESET`. -/

namespace Sys2Proof.Machine

/-- `WAKE` (R201): `PoweredDown` becomes `Idle`; nothing else changes. -/
def execWake (s : State) : Host.Outcome State Fault Refusal :=
  .next { s with devstate := if s.devstate = .poweredDown then .idle else s.devstate }

/-- `RESET` (R203), enabled always, also during a transaction. -/
def execReset (s : State) : Host.Outcome State Fault Refusal :=
  .next s.resetRegisters

end Sys2Proof.Machine
end

