-- ==== Sys2Proof/Machine/Dispatch.lean ====
section
/-! DEFINITION. Which meaning each instruction has: one arm per constructor of Instr. -/

namespace Sys2Proof.Machine

def exec (i : Instr) (s : State) : Host.Outcome State Fault Refusal :=
  match i with
  | .lcs len => Sys2Proof.Machine.execLcs len s
  | .dcs tfi data => Sys2Proof.Machine.execDcs tfi data s
  | .encode op payload => Sys2Proof.Machine.execEncode op payload s
  | .isAck b => Sys2Proof.Machine.execIsAck b s
  | .decode b => Sys2Proof.Machine.execDecode b s
  | .start op payload ta tr => Sys2Proof.Machine.execStart op payload ta tr s
  | .pollAck => Sys2Proof.Machine.execPollAck s
  | .pollResp => Sys2Proof.Machine.execPollResp s
  | .tick => Sys2Proof.Machine.execTick s
  | .wake => Sys2Proof.Machine.execWake s
  | .reset => Sys2Proof.Machine.execReset s
  | .getfw => Sys2Proof.Machine.execGetfw s
  | .setup => Sys2Proof.Machine.execSetup s
  | .list t => Sys2Proof.Machine.execList t s
  | .pwrdown => Sys2Proof.Machine.execPwrdown s
  | .ackFrame tail => Sys2Proof.Machine.execAckFrame tail s
  | .infoFrame tfi op payload tail => Sys2Proof.Machine.execInfoFrame tfi op payload tail s
  | .cmdGetFirmwareVersion payload _ => Sys2Proof.Machine.execCmdGetFirmwareVersion payload s
  | .cmdSAMConfiguration payload _ => Sys2Proof.Machine.execCmdSAMConfiguration payload s
  | .cmdPowerDown payload _ => Sys2Proof.Machine.execCmdPowerDown payload s
  | .cmdRFConfiguration payload _ => Sys2Proof.Machine.execCmdRFConfiguration payload s
  | .cmdInListPassiveTarget payload _ => Sys2Proof.Machine.execCmdInListPassiveTarget payload s
  | .rspGetFirmwareVersion payload tail => Sys2Proof.Machine.execRspGetFirmwareVersion payload tail s
  | .rspSAMConfiguration payload tail => Sys2Proof.Machine.execRspSAMConfiguration payload tail s
  | .rspPowerDown payload tail => Sys2Proof.Machine.execRspPowerDown payload tail s
  | .rspRFConfiguration payload tail => Sys2Proof.Machine.execRspRFConfiguration payload tail s
  | .rspInListPassiveTarget payload tail => Sys2Proof.Machine.execRspInListPassiveTarget payload tail s

end Sys2Proof.Machine
end

