-- ==== Sys2Proof/WellFormed.lean ====
section
/-! DEFINITION. Which instructions are well formed: the conditions under which a frame's fields can stand in the wire
format of 30_encoding.md R91. An operation without an encoding (R118) takes every operand of its types: an over-long payload
of `ENCODE` or `START` is refused when it runs (R111), it is not ill formed. -/

namespace Sys2Proof

/-- The payload fits a one-byte LEN: `LEN = len(payload) + 2 ≤ 255` (30_encoding.md R100). -/
def payloadFits (payload : Bytes) : Bool := payload.length ≤ 253

/-- The TFI is one of the two that the wire format has (30_encoding.md R95). -/
def tfiLegal (tfi : Byte) : Bool := tfi == 0xD4 || tfi == 0xD5

/-- The direction and opcode belong to one of the ten frames the table names (30_encoding.md R103, R104), which have
constructors of their own: the generic information frame is every other one. -/
def isNamedHeader (tfi opcode : Byte) : Bool :=
  (tfi == 0xD4 && [0x02, 0x14, 0x16, 0x32, 0x4A].contains opcode) ||
  (tfi == 0xD5 && [0x03, 0x15, 0x17, 0x33, 0x4B].contains opcode)

/-- Well-formedness of an instruction. -/
def Instr.wf : Instr → Bool
  | .lcs _ => true
  | .dcs _ _ => true
  | .encode _ _ => true
  | .isAck _ => true
  | .decode _ => true
  | .start _ _ _ _ => true
  | .pollAck => true
  | .pollResp => true
  | .tick => true
  | .wake => true
  | .reset => true
  | .getfw => true
  | .setup => true
  | .list _ => true
  | .pwrdown => true
  | .ackFrame _ => true
  | .infoFrame tfi op p _ => payloadFits p && tfiLegal tfi && !isNamedHeader tfi op
  | .cmdGetFirmwareVersion p _ => payloadFits p
  | .cmdSAMConfiguration p _ => payloadFits p
  | .cmdPowerDown p _ => payloadFits p
  | .cmdRFConfiguration p _ => payloadFits p
  | .cmdInListPassiveTarget p _ => payloadFits p
  | .rspGetFirmwareVersion p _ => payloadFits p
  | .rspSAMConfiguration p _ => payloadFits p
  | .rspPowerDown p _ => payloadFits p
  | .rspRFConfiguration p _ => payloadFits p
  | .rspInListPassiveTarget p _ => payloadFits p

end Sys2Proof
end

