-- ==== Sys2Proof/Decode.lean ====
section
/-! DEFINITION. From wire bytes to an instruction, and back. A byte sequence is a valid frame exactly when `DECODE` returns
Ok (30_encoding.md R119); the ACK frame is told from an information frame first (R99). The decoder is total: bytes that are
no frame are rejected with the name of the first check that fails (40_framecodec.md R137, R138). The fifteen operations of
R118 have no binary encoding. -/

namespace Sys2Proof

open Sys2Proof.Machine

/-- The command frame with the given opcode: one of the five named ones (30_encoding.md R103) or the generic one. -/
def commandInstr (opcode : Byte) (payload tail : Bytes) : Instr :=
  if opcode = 0x02 then .cmdGetFirmwareVersion payload tail
  else if opcode = 0x14 then .cmdSAMConfiguration payload tail
  else if opcode = 0x16 then .cmdPowerDown payload tail
  else if opcode = 0x32 then .cmdRFConfiguration payload tail
  else if opcode = 0x4A then .cmdInListPassiveTarget payload tail
  else .infoFrame Config.tfiH2C opcode payload tail

/-- The response frame with the given opcode: one of the five named ones (30_encoding.md R104) or the generic one. -/
def responseInstr (opcode : Byte) (payload tail : Bytes) : Instr :=
  if opcode = 0x03 then .rspGetFirmwareVersion payload tail
  else if opcode = 0x15 then .rspSAMConfiguration payload tail
  else if opcode = 0x17 then .rspPowerDown payload tail
  else if opcode = 0x33 then .rspRFConfiguration payload tail
  else if opcode = 0x4B then .rspInListPassiveTarget payload tail
  else .infoFrame Config.tfiC2H opcode payload tail

/-- The instruction that the bytes of a buffer are, or the name of the check they fail. The bytes after the ACK sentinel
or after the postamble become the instruction's `tail` (30_encoding.md R93, R110: ignored by the frame). -/
def decode (b : Bytes) : Except ErrSub Instr :=
  match decodeFrame b with
  | .unexpectedAck => .ok (.ackFrame (b.drop Config.ackLen))
  | .ok tfi op p =>
    let tail := b.drop (p.length + 9)
    if tfi = Config.tfiH2C then .ok (commandInstr op p tail) else .ok (responseInstr op p tail)
  | .malformed sub => .error sub

/-- The bytes of an instruction, by the wire formats of 30_encoding.md R91 and R92; none for the operations that have no
binary encoding (R118). -/
def encode : Instr → Option Bytes
  | .lcs _ => none
  | .dcs _ _ => none
  | .encode _ _ => none
  | .isAck _ => none
  | .decode _ => none
  | .start _ _ _ _ => none
  | .pollAck => none
  | .pollResp => none
  | .tick => none
  | .wake => none
  | .reset => none
  | .getfw => none
  | .setup => none
  | .list _ => none
  | .pwrdown => none
  | .ackFrame t => some (ackSentinel ++ t)
  | .infoFrame tfi op p t => some (infoFrameBytes tfi op p ++ t)
  | .cmdGetFirmwareVersion p t => some (infoFrameBytes 0xD4 0x02 p ++ t)
  | .cmdSAMConfiguration p t => some (infoFrameBytes 0xD4 0x14 p ++ t)
  | .cmdPowerDown p t => some (infoFrameBytes 0xD4 0x16 p ++ t)
  | .cmdRFConfiguration p t => some (infoFrameBytes 0xD4 0x32 p ++ t)
  | .cmdInListPassiveTarget p t => some (infoFrameBytes 0xD4 0x4A p ++ t)
  | .rspGetFirmwareVersion p t => some (infoFrameBytes 0xD5 0x03 p ++ t)
  | .rspSAMConfiguration p t => some (infoFrameBytes 0xD5 0x15 p ++ t)
  | .rspPowerDown p t => some (infoFrameBytes 0xD5 0x17 p ++ t)
  | .rspRFConfiguration p t => some (infoFrameBytes 0xD5 0x33 p ++ t)
  | .rspInListPassiveTarget p t => some (infoFrameBytes 0xD5 0x4B p ++ t)

/-- The bytes of an instruction whose bits, numbered as opcode_table.json numbers them (byte `i` is bits `8i + 7` down to
`8i`), are the low `nbits` bits of `w`; every later byte, up to the longest frame, is 0. -/
def tableBytes (nbits w : Nat) : Bytes :=
  (List.range (max Config.maxFrame ((nbits + 7) / 8))).map fun i => BitVec.ofNat 8 (w % 2 ^ nbits / 2 ^ (8 * i))

/-- The instruction the decoder reads from the bytes of an opcode-table word. -/
def decodeTableWord (nbits w : Nat) : Option Instr :=
  match decode (tableBytes nbits w) with
  | .ok i => some i
  | .error _ => none

end Sys2Proof
end

