-- ==== Sys2Proof/Machine/Fetch.lean ====
section
/-! DEFINITION. What the next step is (00_scope.md R12; log entry 5). The block fetches no instructions (10_state.md R35):
an event that the host has handed over goes first, in the order handed over; with none, the block takes its own step of
41_handshake.md R179: the poll that is due, else `TICK`. -/

namespace Sys2Proof.Machine

/-- What a step runs: an instruction, or wire bytes that are no frame. -/
inductive Fetched where
  | run (i : Instr)
  | undecoded (b : Bytes)
  deriving DecidableEq, Repr

/-- The step of the block or of time, when the host asks for nothing (41_handshake.md R179). -/
def ownInstr (s : State) : Instr :=
  if s.pollAckDue then .pollAck else if s.pollRespDue then .pollResp else .tick

/-- An event as what it runs: an operation as it stands, wire bytes through the decoder. -/
def readInput : Input → Fetched
  | .op i => .run i
  | .wire b =>
    match Sys2Proof.decode b with
    | .ok i => .run i
    | .error _ => .undecoded b

/-- What the next step runs, and the state it runs in (the event taken from the queue). -/
def fetch (s : State) : Fetched × State :=
  match s.pending with
  | [] => (.run (ownInstr s), s)
  | e :: rest => (readInput e, { s with pending := rest })

/-- The state in which the bytes of an opcode-table word are the next event. -/
def State.handWire (s : State) (b : Bytes) : State := { s with pending := .wire b :: s.pending }

end Sys2Proof.Machine
end

