-- ==== Sys2Proof/Machine/Step.lean ====
section
/-! DEFINITION. One step of the machine: one event, taken atomically (00_scope.md R12). -/

namespace Sys2Proof.Machine

/-- One step. Wire bytes that are no frame come from the chip as they are, and the poll that reads them fails as
30_encoding.md R110 says (log entry 7). -/
def step (s : State) : Host.Outcome State Fault Refusal :=
  match fetch s with
  | (.run i, t) => exec i t
  | (.undecoded b, t) => .next (receive b t)

/-- The state whose next step runs the instruction of an opcode-table word: its bytes are the next event on the wire. -/
def State.withFetchWord (s : State) (nbits w : Nat) : State := s.handWire (Sys2Proof.tableBytes nbits w)

end Sys2Proof.Machine
end

