-- ==== Sys2Proof/Safety.lean ====
section
/-! DEFINITION. What a reachable state is, and the runs that claims speak of: the coupling of the two state registers
(10_state.md R23), the timer invariants (41_handshake.md R172), the validity of the error and result registers (10_state.md
R24, R25, R27, R28, R33), and a run against a simulated chip (20_memory.md R66, 41_handshake.md R177). -/

namespace Sys2Proof.Machine

/-- The wait phases of the two state registers coincide, and the terminal states allow what 10_state.md R23 lists, with its
one exception: `WAKE` after a `DeviceAsleep` failure or after a completed power-down. -/
def State.Coupled (s : State) : Prop :=
  match s.txstate with
  | .idle => s.devstate = .idle
  | .ackWait => s.devstate = .awaitingAck
  | .responseWait => s.devstate = .awaitingResponse
  | .done => s.devstate = .idle ∨ s.devstate = .poweredDown
  | .failed =>
    if s.err = .deviceAsleep then s.devstate = .poweredDown ∨ s.devstate = .idle else s.devstate = .error

/-- `0 ≤ ELAPSED ≤ NEXTPOLL ≤ T` in each wait phase (41_handshake.md R172). -/
def State.TimersOk (s : State) : Prop :=
  (s.txstate = .ackWait → s.elapsed.toNat ≤ s.nextpoll.toNat ∧ s.nextpoll.toNat ≤ s.tAck.toNat) ∧
  (s.txstate = .responseWait → s.elapsed.toNat ≤ s.nextpoll.toNat ∧ s.nextpoll.toNat ≤ s.tResp.toNat)

/-- `ERR` holds a block-level kind when `TXSTATE = Failed` and `None` otherwise (10_state.md R24); `ERR_SUB` is `None`
exactly when the kind is not `MalformedFrame` (R25). -/
def State.ErrorsOk (s : State) : Prop :=
  (s.txstate = .failed ↔ s.err ≠ .none) ∧
  s.err ≠ .protocolError ∧ s.err ≠ .setupFailed ∧
  (s.err = .malformedFrame ↔ s.errSub ≠ .none)

/-- The command registers: the payload bound (10_state.md R27), and `TXBUF` is the encoded command or, before the first
accepted `START`, empty (R28). A sleeping device has run the power-down command (R21, 41_handshake.md R176). -/
def State.CommandOk (s : State) : Prop :=
  s.cmdPayload.length ≤ 252 ∧
  (s.txbuf = infoFrameBytes 0xD4 s.cmdOpcode s.cmdPayload ∨ (s.txbuf = [] ∧ s.busy = false)) ∧
  (s.devstate = .poweredDown → s.cmdOpcode = 0x16)

/-- The result registers: cleared unless `TXSTATE = Done`, and then the correlated response (10_state.md R33,
41_handshake.md R175). -/
def State.ResultOk (s : State) : Prop :=
  s.respPayload.length ≤ 253 ∧
  (s.txstate = .done → s.respOpcode = s.cmdOpcode + 1) ∧
  (s.txstate ≠ .done → s.respOpcode = 0 ∧ s.respPayload = [])

/-- The invariant of every reachable state. -/
structure State.Inv (s : State) : Prop where
  coupled : s.Coupled
  timers : s.TimersOk
  errors : s.ErrorsOk
  command : s.CommandOk
  result : s.ResultOk

/-- A poll is due. -/
def State.pollDue (s : State) : Bool := s.pollAckDue || s.pollRespDue

/-- The block's own step, where the answer of a read is the one a simulated chip gives: a function of the state, so of the
bus trace so far and of the time (20_memory.md R66). -/
def chipStep (chip : State → ReadAnswer) (s : State) : State :=
  if s.pollDue then ownStep { s with readAns := chip s :: s.readAns } else ownStep s

/-- A run against a simulated chip, at most `n` steps, stopping when the transaction is over. -/
def runChip (chip : State → ReadAnswer) : Nat → State → State
  | 0, s => s
  | n + 1, s => if s.busy then runChip chip n (chipStep chip s) else s

/-- How many of the first `n` own steps of a transaction are ticks. -/
def ticksIn : Nat → State → Nat
  | 0, _ => 0
  | n + 1, s => if s.busy then (if s.pollDue then 0 else 1) + ticksIn n (ownStep s) else 0

/-- The events of a trace that are bus writes of the given bytes. -/
def BusEvent.isWriteOf (b : Bytes) : BusEvent → Bool
  | .write _ c _ => c == b
  | .read _ _ _ => false

/-- The event is a read of at most `n` bytes. -/
def BusEvent.isReadOf (n : Nat) : BusEvent → Bool
  | .write _ _ _ => false
  | .read _ m _ => m == n

/-- Not in flight and awake: `START` reaches gate 3 (41_handshake.md R161, R162). -/
def State.ready (s : State) : Prop := s.busy = false ∧ s.devstate ≠ .poweredDown

/-- Every register that is the command's or a timeout's has the value it had (10_state.md R39: no step writes it but
`START` and `RESET`). -/
def State.SameCommand (s t : State) : Prop :=
  t.cmdOpcode = s.cmdOpcode ∧ t.cmdPayload = s.cmdPayload ∧ t.txbuf = s.txbuf ∧ t.tAck = s.tAck ∧ t.tResp = s.tResp

/-- The configuration and the model's fields that only the host writes are as they were. -/
def State.SameSurroundings (s t : State) : Prop :=
  t.params = s.params ∧ t.pending = s.pending ∧ t.ret = s.ret

end Sys2Proof.Machine

namespace Sys2Proof

open Sys2Proof.Machine

/-- The opcode and payload of a host-to-chip frame: the command it carries (30_encoding.md R103). -/
def Instr.commandOf : Instr → Option (Byte × Bytes)
  | .infoFrame tfi op p _ => if tfi = 0xD4 then some (op, p) else none
  | .cmdGetFirmwareVersion p _ => some (0x02, p)
  | .cmdSAMConfiguration p _ => some (0x14, p)
  | .cmdPowerDown p _ => some (0x16, p)
  | .cmdRFConfiguration p _ => some (0x32, p)
  | .cmdInListPassiveTarget p _ => some (0x4A, p)
  | _ => none

/-- The opcode, the payload and the bytes after the postamble of a chip-to-host information frame (30_encoding.md R104). -/
def Instr.responseOf : Instr → Option (Byte × Bytes × Bytes)
  | .infoFrame tfi op p t => if tfi = 0xD5 then some (op, p, t) else none
  | .rspGetFirmwareVersion p t => some (0x03, p, t)
  | .rspSAMConfiguration p t => some (0x15, p, t)
  | .rspPowerDown p t => some (0x17, p, t)
  | .rspRFConfiguration p t => some (0x33, p, t)
  | .rspInListPassiveTarget p t => some (0x4B, p, t)
  | _ => none

/-- The operations that issue a `START` (30_encoding.md R115; 43_controller_sequences.md; the host-to-chip frames). -/
def Instr.startsTransaction : Instr → Bool
  | .start _ _ _ _ => true
  | .getfw => true
  | .setup => true
  | .list _ => true
  | .pwrdown => true
  | i => i.commandOf.isSome

/-- The macro-sequences (43_controller_sequences.md). -/
def Instr.isMacro : Instr → Bool
  | .getfw => true
  | .setup => true
  | .list _ => true
  | .pwrdown => true
  | _ => false

/-- An information frame written out (30_encoding.md R91): preamble, start code, LEN, LCS, TFI, opcode, payload, DCS,
postamble, with both checksums as two's complements of natural sums (R94, R97). -/
def wireFrame (tfi op : Byte) (p : Bytes) : Bytes :=
  [0x00, 0x00, 0xFF, BitVec.ofNat 8 (p.length + 2), BitVec.ofNat 8 (256 - (p.length + 2)), tfi, op] ++ p ++
    [BitVec.ofNat 8 (256 - (tfi.toNat + op.toNat + (p.map BitVec.toNat).sum) % 256), 0x00]

/-- The state after a transaction that the chip answers at its first polls: ACK behind the status byte `st1`, then the
correlated response with payload `q` behind `st2` (41_handshake.md R161, R166, R176). -/
def Machine.State.answered (s : State) (op : Byte) (p : Bytes) (tResp : Timer) (reads : List ReadAnswer)
    (writes : List WriteAnswer) (st1 st2 : Byte) (q : Bytes) : State :=
  { s with
    cmdOpcode := op, cmdPayload := p, txbuf := wireFrame 0xD4 op p, tAck := 1000, tResp := tResp
    elapsed := 0, nextpoll := 0, retryLeft := true, respOpcode := op + 1, respPayload := q
    err := .none, errSub := .none, txstate := .done, devstate := if op = 0x16 then .poweredDown else .idle
    readAns := reads, writeAns := writes
    trace := s.trace ++ [.write s.params.i2cAddr (wireFrame 0xD4 op p) .ok,
      .read s.params.i2cAddr 7 (.ok [st1, 0x00, 0x00, 0xFF, 0x00, 0xFF, 0x00]),
      .read s.params.i2cAddr 263 (.ok (st2 :: wireFrame 0xD5 (op + 1) q))] }

end Sys2Proof
end

