-- ==== Sys2Proof/Certificates/Slice0/Obligations.lean ====
section
/-! DEFINITION. The statements for the provers. Each docstring names the rule of the spec that it formalises. A statement
about a bus access reads the environment's answer through `State.nextRead` and `State.nextWrite` (the first listed answer,
else a free value), so it holds for every answer the environment could give. -/

open Sys2Proof Sys2Proof.Machine

/-! ## The frame codec -/

/-- 40_framecodec.md R130: `LCS(len)` completes with `(256 − len) mod 256`, touches nothing else, and is the one byte that
passes `lcs_ok`. -/
def Obligations.LcsReturnsTwosComplement : Prop :=
  ∀ (len : Byte) (s : State), ∃ r : Byte,
    exec (.lcs len) s = .next { s with ret := .byte r } ∧
    r.toNat = (256 - len.toNat) % 256 ∧
    ∀ c : Byte, (len.toNat + c.toNat) % 256 = 0 ↔ c = r

/-- 40_framecodec.md R131: `DCS(tfi, data)` completes with `neg8(tfi + sum(data))`, touches nothing else, and is the one
byte that passes `dcs_ok`; it ignores the order of the bytes and detects every change of exactly one byte. -/
def Obligations.DcsReturnsTwosComplementOfSum : Prop :=
  (∀ (tfi : Byte) (data : Bytes) (s : State), ∃ r : Byte,
    exec (.dcs tfi data) s = .next { s with ret := .byte r } ∧
    r = dcsOf tfi data ∧
    r.toNat = (256 - (tfi.toNat + (data.map BitVec.toNat).sum) % 256) % 256 ∧
    ∀ c : Byte, (tfi.toNat + (data.map BitVec.toNat).sum + c.toNat) % 256 = 0 ↔ c = r) ∧
  (∀ (tfi : Byte) (d e : Bytes), d.Perm e → dcsOf tfi d = dcsOf tfi e) ∧
  (∀ (tfi : Byte) (d : Bytes) (i : Nat) (v : Byte), i < d.length → v ≠ d.getD i 0 →
    dcsOf tfi (d.set i v) ≠ dcsOf tfi d)

/-- 40_framecodec.md R133 with 30_encoding.md R111: `ENCODE` completes with the frame of R91 for a payload of at most 252
bytes, whatever the opcode, and is refused above. -/
def Obligations.EncodeReturnsFrameOrRefuses : Prop :=
  ∀ (op : Byte) (p : Bytes) (s : State),
    (p.length ≤ 252 → exec (.encode op p) s = .next { s with ret := .frame (wireFrame 0xD4 op p) }) ∧
    (252 < p.length → exec (.encode op p) s = .refused .encodeOverflow)

/-- 40_framecodec.md R134: length, injectivity, decoding and no confusion with the ACK, for payloads in range. -/
def Obligations.EncodedFrameProperties : Prop :=
  ∀ (op : Byte) (p : Bytes), p.length ≤ 252 → ∃ f, encodeFrame op p = some f ∧
    f.length = p.length + 9 ∧
    decodeFrame f = .ok 0xD4 op p ∧
    isAckBytes f = false ∧
    ∀ (op' : Byte) (p' : Bytes), encodeFrame op' p' = some f → op' = op ∧ p' = p

/-- 40_framecodec.md R135: `IS_ACK(b)` completes with true exactly when `b` begins with the six sentinel bytes. -/
def Obligations.IsAckReturnsSentinelMatch : Prop :=
  ∀ (b : Bytes) (s : State), ∃ r : Bool,
    exec (.isAck b) s = .next { s with ret := .flag r } ∧
    (r = true ↔ ∃ t : Bytes, b = [0x00, 0x00, 0xFF, 0x00, 0xFF, 0x00] ++ t)

/-- 40_framecodec.md R137: `DECODE(b)` completes, touches nothing else, and its result is the one of the first of the
eleven steps that fires. -/
def Obligations.DecodeReportsFirstStepThatFires : Prop :=
  ∀ (b : Bytes) (s : State), ∃ d : DecodeResult,
    exec (.decode b) s = .next { s with ret := .decoded d } ∧
    let byte := fun i => b.getD i 0
    let L := (byte 3).toNat
    let ack := [0x00, 0x00, 0xFF, 0x00, 0xFF, 0x00] <+: b
    let s2 := ¬ ack ∧ 9 ≤ b.length
    let s3 := s2 ∧ byte 0 = 0x00
    let s4 := s3 ∧ byte 1 = 0x00 ∧ byte 2 = 0xFF
    let s5 := s4 ∧ (L + (byte 4).toNat) % 256 = 0
    let s6 := s5 ∧ 2 ≤ L
    let s7 := s6 ∧ L + 7 ≤ b.length
    let s8 := s7 ∧ (byte 5 = 0xD4 ∨ byte 5 = 0xD5)
    let s9 := s8 ∧ ((((b.drop 5).take L).map BitVec.toNat).sum + (byte (5 + L)).toNat) % 256 = 0
    let s10 := s9 ∧ byte (6 + L) = 0x00
    (ack → d = .unexpectedAck) ∧
    (¬ ack ∧ b.length < 9 → d = .malformed .tooShort) ∧
    (s2 ∧ ¬ s3 → d = .malformed .badPreamble) ∧
    (s3 ∧ ¬ s4 → d = .malformed .badStartCode) ∧
    (s4 ∧ ¬ s5 → d = .malformed .badLcs) ∧
    (s5 ∧ ¬ s6 → d = .malformed .tooShort) ∧
    (s6 ∧ ¬ s7 → d = .malformed .truncated) ∧
    (s7 ∧ ¬ s8 → d = .malformed .badTfi) ∧
    (s8 ∧ ¬ s9 → d = .malformed .badDcs) ∧
    (s9 ∧ ¬ s10 → d = .malformed .badPostamble) ∧
    (s10 → d = .ok (byte 5) (byte 6) ((b.drop 7).take (L - 2)))

/-- 30_encoding.md R119 and R91: `DECODE` returns Ok exactly on the frames of the wire format, in either direction, with any
bytes after the postamble. -/
def Obligations.DecodeAcceptsExactlyWireFrames : Prop :=
  ∀ (b : Bytes) (tfi op : Byte) (p : Bytes),
    decodeFrame b = .ok tfi op p ↔
      (tfi = 0xD4 ∨ tfi = 0xD5) ∧ p.length ≤ 253 ∧ ∃ t : Bytes, b = wireFrame tfi op p ++ t

/-- 40_framecodec.md R140: the round trip, with any bytes appended. -/
def Obligations.DecodeOfEncodeRoundTrips : Prop :=
  ∀ (op : Byte) (p t : Bytes), p.length ≤ 252 →
    ∃ f, encodeFrame op p = some f ∧ decodeFrame (f ++ t) = .ok 0xD4 op p

/-- 40_framecodec.md R141: changing any single byte of a valid frame gives `MalformedFrame`, with the sub-cause that the rule
lists for the byte's index, so never `Ok` and never `UnexpectedAck`; changing a byte beyond the postamble changes nothing. -/
def Obligations.OneByteChangeIsMalformed : Prop :=
  ∀ (b : Bytes) (tfi op : Byte) (p : Bytes) (i : Nat) (v : Byte),
    decodeFrame b = .ok tfi op p → v ≠ b.getD i 0 →
    let L := (b.getD 3 0).toNat
    (i < L + 7 → ∃ sub, decodeFrame (b.set i v) = .malformed sub ∧
      (i = 0 → sub = .badPreamble) ∧
      (i = 1 ∨ i = 2 → sub = .badStartCode) ∧
      (i = 3 ∨ i = 4 → sub = .badLcs) ∧
      (i = 5 → sub = .badTfi ∨ sub = .badDcs) ∧
      (6 ≤ i ∧ i ≤ 5 + L → sub = .badDcs) ∧
      (i = 6 + L → sub = .badPostamble)) ∧
    (L + 7 ≤ i → decodeFrame (b.set i v) = .ok tfi op p)

/-- 40_framecodec.md R142: the ACK sentinel never decodes, with any bytes appended; without the first step the bare
sentinel would be too short and the padded one would fail its length checksum; and no valid frame is taken for an ACK. -/
def Obligations.AckNeverDecodesAsDataFrame : Prop :=
  (∀ t : Bytes, decodeFrame ([0x00, 0x00, 0xFF, 0x00, 0xFF, 0x00] ++ t) = .unexpectedAck) ∧
  ([0x00, 0x00, 0xFF, 0x00, 0xFF, 0x00] : Bytes).length < 9 ∧
  lcsOk 0x00 0xFF = false ∧
  (∀ (tfi op : Byte) (p t : Bytes), (tfi = 0xD4 ∨ tfi = 0xD5) → p.length ≤ 253 →
    decodeFrame (wireFrame tfi op p ++ t) ≠ .unexpectedAck)

/-! ## Decoding and stepping -/

/-- Decode and encode agree, one way: the bytes of a well-formed frame decode to it, with every operand at every value. -/
def Obligations.InstrDecodeOfEncode : Prop :=
  ∀ (i : Instr) (b : Bytes), i.wf = true → encode i = some b → decode b = .ok i

/-- Decode and encode agree, the other way: bytes that decode are the bytes of the well-formed instruction they decode
to, so no reserved pattern falls through. That no two byte sequences decode to one instruction is the model's choice (log
entry 18): a frame carries the bytes after its postamble as an operand, which `DECODE` ignores (40_framecodec.md R139). -/
def Obligations.InstrEncodeOfDecode : Prop :=
  ∀ (i : Instr) (b : Bytes), decode b = .ok i → i.wf = true ∧ encode i = some b

/-- 30_encoding.md R92, R103, R104 and 95_test_vectors.md: words written out from the spec decode to what they stand
for. -/
def Obligations.SpecWordsDecode : Prop :=
  decode [0x00, 0x00, 0xFF, 0x00, 0xFF, 0x00] = .ok (.ackFrame []) ∧
  decode [0x00, 0x00, 0xFF, 0x02, 0xFE, 0xD4, 0x02, 0x2A, 0x00] = .ok (.cmdGetFirmwareVersion [] []) ∧
  decode [0x00, 0x00, 0xFF, 0x05, 0xFB, 0xD4, 0x14, 0x01, 0x00, 0x00, 0x17, 0x00] =
    .ok (.cmdSAMConfiguration [0x01, 0x00, 0x00] []) ∧
  decode [0x00, 0x00, 0xFF, 0x03, 0xFD, 0xD5, 0x4B, 0x00, 0xE0, 0x00, 0xAA] =
    .ok (.rspInListPassiveTarget [0x00] [0xAA]) ∧
  decode [0x00, 0x00, 0xFF, 0x02, 0xFE, 0xD4, 0x00, 0x2C, 0x00] = .ok (.infoFrame 0xD4 0x00 [] []) ∧
  decode [0x00, 0x00, 0xFF, 0x03, 0xFD, 0x7F, 0x01, 0x02, 0x7E, 0x00] = .error .badTfi

/-- A step runs the decoded instruction: the first event handed over is taken from the queue and run; wire bytes that are
no frame reach the block as the chip's answer (log entry 7; what becomes of them: `UndecodedBytesReadByDuePoll`); with no
event, the poll that is due, else `TICK` (R179). -/
def Obligations.StepRunsFetchedInstruction : Prop :=
  (∀ (s : State) (b : Bytes) (rest : List Input) (i : Instr), s.pending = .wire b :: rest → decode b = .ok i →
    step s = exec i { s with pending := rest }) ∧
  (∀ (s : State) (b : Bytes) (rest : List Input) (e : ErrSub), s.pending = .wire b :: rest → decode b = .error e →
    step s = .next (receive b { s with pending := rest })) ∧
  (∀ (s : State) (rest : List Input) (i : Instr), s.pending = .op i :: rest →
    step s = exec i { s with pending := rest }) ∧
  (∀ s : State, s.pending = [] → s.pollAckDue = true → step s = exec .pollAck s) ∧
  (∀ s : State, s.pending = [] → s.pollRespDue = true → step s = exec .pollResp s) ∧
  (∀ s : State, s.pending = [] → s.pollAckDue = false → s.pollRespDue = false → step s = exec .tick s) ∧
  (∀ (s : State) (nbits w : Nat) (i : Instr), decodeTableWord nbits w = some i →
    step (s.withFetchWord nbits w) = exec i s)

/-- 20_memory.md R65, R66, R70, R75: a bus access appends its event with the answer, takes the listed answer or a free
value, and a read answer never exceeds the length asked for. -/
def Obligations.BusAccessRecordsItsEvent : Prop :=
  (∀ (s : State) (b : Bytes),
    s.afterWrite b = { s with
      trace := s.trace ++ [.write s.params.i2cAddr b s.nextWrite]
      writeAns := s.writeAns.tail
      draws := s.draws + (if s.writeAns = [] then 1 else 0) } ∧
    (∀ a r, s.writeAns = a :: r → s.nextWrite = a)) ∧
  (∀ (s : State) (n : Nat),
    s.afterRead n = { s with
      trace := s.trace ++ [.read s.params.i2cAddr n (s.nextRead n)]
      readAns := s.readAns.tail
      draws := s.draws + (if s.readAns = [] then 1 else 0) } ∧
    (∀ buf r, s.readAns = .ok buf :: r → buf.length ≤ n → s.nextRead n = .ok buf) ∧
    (∀ info r, s.readAns = .ioErr info :: r → s.nextRead n = .ioErr info) ∧
    (∀ buf, s.nextRead n = .ok buf → buf.length ≤ n))

/-! ## START -/

/-- 41_handshake.md R161, R163: an accepted `START` latches the command, writes the frame and waits for the ACK; if the write
fails, it raises `IoError`, the command registers keep what was latched and the timer registers their old values. -/
def Obligations.StartSendsFrameOrFails : Prop :=
  ∀ (op : Byte) (p : Bytes) (ta tr : Option Timer) (s : State), s.ready → p.length ≤ 252 →
    (s.nextWrite = .ok → exec (.start op p ta tr) s = .next { s.afterWrite (wireFrame 0xD4 op p) with
      cmdOpcode := op, cmdPayload := p, txbuf := wireFrame 0xD4 op p
      tAck := ta.getD 1000, tResp := tr.getD s.params.tRespDefault
      retryLeft := true, respOpcode := 0, respPayload := [], err := .none, errSub := .none
      txstate := .ackWait, devstate := .awaitingAck, elapsed := 0, nextpoll := 0 }) ∧
    (∀ info, s.nextWrite = .ioErr info → exec (.start op p ta tr) s = .next { s.afterWrite (wireFrame 0xD4 op p) with
      cmdOpcode := op, cmdPayload := p, txbuf := wireFrame 0xD4 op p
      tAck := ta.getD 1000, tResp := tr.getD s.params.tRespDefault
      retryLeft := true, respOpcode := 0, respPayload := []
      txstate := .failed, devstate := .error, err := .ioError, errSub := .none, ioerrInfo := info })

/-- 41_handshake.md R162: the three gates, in order, before anything is written. -/
def Obligations.StartGatesInOrder : Prop :=
  ∀ (op : Byte) (p : Bytes) (ta tr : Option Timer) (s : State),
    (s.txstate = .ackWait ∨ s.txstate = .responseWait → exec (.start op p ta tr) s = .refused .busy) ∧
    (s.txstate ≠ .ackWait → s.txstate ≠ .responseWait → s.devstate = .poweredDown →
      exec (.start op p ta tr) s = .next { s with
        txstate := .failed, err := .deviceAsleep, errSub := .none, respOpcode := 0, respPayload := [] }) ∧
    (s.txstate ≠ .ackWait → s.txstate ≠ .responseWait → s.devstate ≠ .poweredDown → 252 < p.length →
      exec (.start op p ta tr) s = .refused .encodeOverflow)

/-- 41_handshake.md R162 gate 1 for everything that issues a `START` (30_encoding.md R115): refused while a transaction is
in flight. That the macro-sequences and the host-to-chip frames are refused with it is the model's reading (log entries 6
and 9). -/
def Obligations.StartersRefusedWhileInFlight : Prop :=
  ∀ (i : Instr) (s : State), i.startsTransaction = true →
    s.txstate = .ackWait ∨ s.txstate = .responseWait → exec i s = .refused .busy

/-- The host-to-chip frames (30_encoding.md R103; log entry 6, the model's choice): each runs as the `START` of the command
it carries with both timeouts absent, and completes where that does. -/
def Obligations.CommandFrameRunsAsStart : Prop :=
  ∀ (i : Instr) (op : Byte) (p : Bytes) (s : State), i.commandOf = some (op, p) →
    exec i s = exec (.start op p none none) s ∧
    (s.ready → p.length ≤ 252 → s.nextWrite = .ok →
      exec i s = .next { s.afterWrite (wireFrame 0xD4 op p) with
        cmdOpcode := op, cmdPayload := p, txbuf := wireFrame 0xD4 op p
        tAck := 1000, tResp := s.params.tRespDefault
        retryLeft := true, respOpcode := 0, respPayload := [], err := .none, errSub := .none
        txstate := .ackWait, devstate := .awaitingAck, elapsed := 0, nextpoll := 0 })

/-! ## POLL_ACK -/

/-- 41_handshake.md R164, R173 and 60_exceptions.md R252: a read that fails ends the transaction at once, in either
phase, whatever the time. -/
def Obligations.PollFailsOnReadError : Prop :=
  ∀ (s : State) (info : Nat),
    (s.pollAckDue = true → s.nextRead 7 = .ioErr info →
      exec .pollAck s = .next { s.afterRead 7 with
        txstate := .failed, devstate := .error, err := .ioError, errSub := .none, ioerrInfo := info }) ∧
    (s.pollRespDue = true → s.nextRead 263 = .ioErr info →
      exec .pollResp s = .next { s.afterRead 263 with
        txstate := .failed, devstate := .error, err := .ioError, errSub := .none, ioerrInfo := info })

/-- 41_handshake.md R165 with 20_memory.md R67, R68: a short or not-ready buffer before the deadline only moves `NEXTPOLL`. -/
def Obligations.AckPollNotReadyReschedules : Prop :=
  ∀ (s : State) (buf : Bytes), s.pollAckDue = true → s.nextRead 7 = .ok buf →
    (buf.length < 7 ∨ buf.getD 0 0 &&& s.params.readyMask.val = 0) → s.elapsed.toNat < s.tAck.toNat →
    ∃ n : Timer, n.toNat = min (s.elapsed.toNat + s.params.pollInterval.val) s.tAck.toNat ∧
      exec .pollAck s = .next { s.afterRead 7 with nextpoll := n }

/-- 41_handshake.md R166: ready with the sentinel; the response timer starts, `RETRY_LEFT` stays. -/
def Obligations.AckSeenEntersResponseWait : Prop :=
  ∀ (s : State) (status : Byte), s.pollAckDue = true → status &&& s.params.readyMask.val ≠ 0 →
    s.nextRead 7 = .ok [status, 0x00, 0x00, 0xFF, 0x00, 0xFF, 0x00] →
    exec .pollAck s = .next { s.afterRead 7 with
      txstate := .responseWait, devstate := .awaitingResponse, elapsed := 0, nextpoll := 0 }

/-- 41_handshake.md R167: ready with anything else. -/
def Obligations.AckMismatchFails : Prop :=
  ∀ (s : State) (status : Byte) (six : Bytes), s.pollAckDue = true → status &&& s.params.readyMask.val ≠ 0 →
    six.length = 6 → six ≠ [0x00, 0x00, 0xFF, 0x00, 0xFF, 0x00] → s.nextRead 7 = .ok (status :: six) →
    exec .pollAck s = .next { s.afterRead 7 with
      txstate := .failed, devstate := .error, err := .ackMismatch, errSub := .none }

/-- 41_handshake.md R168: not ready at the deadline. The frame is sent once more and the full timer restarts; a second
timeout, or a failing re-send, ends the transaction. -/
def Obligations.AckDeadlineRetriesOnceThenFails : Prop :=
  ∀ (s : State) (buf : Bytes), s.pollAckDue = true → s.nextRead 7 = .ok buf →
    (buf.length < 7 ∨ buf.getD 0 0 &&& s.params.readyMask.val = 0) → s.elapsed = s.tAck →
    (s.retryLeft = true → (s.afterRead 7).nextWrite = .ok →
      exec .pollAck s = .next { (s.afterRead 7).afterWrite s.txbuf with
        retryLeft := false, elapsed := 0, nextpoll := 0 }) ∧
    (∀ info, s.retryLeft = true → (s.afterRead 7).nextWrite = .ioErr info →
      exec .pollAck s = .next { (s.afterRead 7).afterWrite s.txbuf with
        retryLeft := false, txstate := .failed, devstate := .error, err := .ioError, errSub := .none, ioerrInfo := info }) ∧
    (s.retryLeft = false →
      exec .pollAck s = .next { s.afterRead 7 with
        txstate := .failed, devstate := .error, err := .ackTimeout, errSub := .none })

/-- 41_handshake.md R169: nothing else is retried. A poll that writes to the bus is an ACK poll at or past the deadline, with the
retry left and the chip not seen ready, and it writes `TXBUF` once. -/
def Obligations.OnlyFirstAckTimeoutResends : Prop :=
  ∀ (s t : State) (addr : BitVec 7) (b : Bytes) (a : WriteAnswer),
    (exec .pollAck s = .next t ∨ exec .pollResp s = .next t) →
    BusEvent.write addr b a ∈ t.trace.drop s.trace.length →
    s.txstate = .ackWait ∧ s.retryLeft = true ∧ s.tAck.toNat ≤ s.elapsed.toNat ∧ t.retryLeft = false ∧
    addr = s.params.i2cAddr ∧ b = s.txbuf ∧
    (∃ buf, s.nextRead 7 = .ok buf ∧ ackUsable s.params.readyMask.val buf = false) ∧
    t.trace = s.trace ++ [.read s.params.i2cAddr 7 (s.nextRead 7), .write s.params.i2cAddr s.txbuf a]

/-! ## POLL_RESP -/

/-- 41_handshake.md R173: short or not ready; wait on before the deadline, `ResponseTimeout` at it, with no retry. -/
def Obligations.ResponsePollNotReady : Prop :=
  ∀ (s : State) (buf : Bytes), s.pollRespDue = true → s.nextRead 263 = .ok buf →
    (buf.length < 10 ∨ buf.getD 0 0 &&& s.params.readyMask.val = 0) →
    (s.elapsed.toNat < s.tResp.toNat →
      ∃ n : Timer, n.toNat = min (s.elapsed.toNat + s.params.pollInterval.val) s.tResp.toNat ∧
        exec .pollResp s = .next { s.afterRead 263 with nextpoll := n }) ∧
    (s.tResp.toNat ≤ s.elapsed.toNat →
      exec .pollResp s = .next { s.afterRead 263 with
        txstate := .failed, devstate := .error, err := .responseTimeout, errSub := .none })

/-- 41_handshake.md R174: a frame that does not decode, or that has the wrong direction, fails the transaction; the bytes
after the status byte are what is decoded (30_encoding.md R93). -/
def Obligations.ResponseDecodeAndDirectionFailures : Prop :=
  ∀ (s : State) (status : Byte) (b : Bytes), s.pollRespDue = true → status &&& s.params.readyMask.val ≠ 0 →
    9 ≤ b.length → s.nextRead 263 = .ok (status :: b) →
    (decodeFrame b = .unexpectedAck →
      exec .pollResp s = .next { s.afterRead 263 with
        txstate := .failed, devstate := .error, err := .unexpectedAck, errSub := .none }) ∧
    (∀ sub, decodeFrame b = .malformed sub →
      exec .pollResp s = .next { s.afterRead 263 with
        txstate := .failed, devstate := .error, err := .malformedFrame, errSub := sub }) ∧
    (∀ tfi op p, decodeFrame b = .ok tfi op p → tfi ≠ 0xD5 →
      exec .pollResp s = .next { s.afterRead 263 with
        txstate := .failed, devstate := .error, err := .malformedFrame, errSub := .badDirection })

/-- 41_handshake.md R175: a valid response frame whose opcode is not the command's plus one, modulo 256. -/
def Obligations.UncorrelatedResponseFails : Prop :=
  ∀ (s : State) (status op : Byte) (b p : Bytes), s.pollRespDue = true → status &&& s.params.readyMask.val ≠ 0 →
    9 ≤ b.length → s.nextRead 263 = .ok (status :: b) → decodeFrame b = .ok 0xD5 op p →
    op.toNat ≠ (s.cmdOpcode.toNat + 1) % 256 →
    exec .pollResp s = .next { s.afterRead 263 with
      txstate := .failed, devstate := .error, err := .opcodeMismatch, errSub := .none }

/-- 41_handshake.md R176: completion; the response is latched, and the block sleeps exactly after the power-down command. -/
def Obligations.CorrelatedResponseCompletes : Prop :=
  ∀ (s : State) (status op : Byte) (b p : Bytes), s.pollRespDue = true → status &&& s.params.readyMask.val ≠ 0 →
    9 ≤ b.length → s.nextRead 263 = .ok (status :: b) → decodeFrame b = .ok 0xD5 op p →
    op.toNat = (s.cmdOpcode.toNat + 1) % 256 →
    exec .pollResp s = .next { s.afterRead 263 with
      respOpcode := op, respPayload := p, txstate := .done
      devstate := if s.cmdOpcode = 0x16 then .poweredDown else .idle }

/-! ## TICK, and steps that are not enabled -/

/-- 41_handshake.md R170: `TICK` counts in a wait state before the next poll, changes nothing outside the wait states, and is
not enabled otherwise (that this is a fault of the model is log entry 8). -/
def Obligations.TickCountsWhileWaiting : Prop :=
  ∀ s : State,
    (s.busy = true → s.elapsed.toNat < s.nextpoll.toNat →
      ∃ e : Timer, e.toNat = s.elapsed.toNat + 1 ∧ exec .tick s = .next { s with elapsed := e }) ∧
    (s.busy = false → exec .tick s = .next s) ∧
    (s.busy = true → s.nextpoll.toNat ≤ s.elapsed.toNat → exec .tick s = .fault .stepNotEnabled)

/-- 41_handshake.md R164, R173: the polls are enabled exactly in their wait state with `ELAPSED = NEXTPOLL`. That a step
that is not enabled is a fault of the model is log entry 8. -/
def Obligations.PollsEnabledExactlyWhenDue : Prop :=
  ∀ s : State,
    ((s.txstate = .ackWait ∧ s.elapsed = s.nextpoll → ∃ t, exec .pollAck s = .next t) ∧
     (¬ (s.txstate = .ackWait ∧ s.elapsed = s.nextpoll) → exec .pollAck s = .fault .stepNotEnabled)) ∧
    ((s.txstate = .responseWait ∧ s.elapsed = s.nextpoll → ∃ t, exec .pollResp s = .next t) ∧
     (¬ (s.txstate = .responseWait ∧ s.elapsed = s.nextpoll) → exec .pollResp s = .fault .stepNotEnabled))

/-! ## WAKE and RESET -/

/-- 42_system.md R201: `WAKE` writes `DEVSTATE` only, and only from `PoweredDown`. -/
def Obligations.WakeOnlyLiftsPowerDown : Prop :=
  ∀ s : State,
    (s.devstate = .poweredDown → exec .wake s = .next { s with devstate := .idle }) ∧
    (s.devstate ≠ .poweredDown → exec .wake s = .next s)

/-- 42_system.md R203: every register at its reset value of 10_state.md R45, from every state, with no bus access; the rule
leaves `IOERR_INFO` unspecified. -/
def Obligations.ResetRestoresEveryRegister : Prop :=
  ∀ s : State, ∃ info : Nat, exec .reset s = .next { s with
    devstate := .idle, txstate := .idle, cmdOpcode := 0, cmdPayload := [], txbuf := []
    tAck := 1000, tResp := s.params.tRespDefault, elapsed := 0, nextpoll := 0, retryLeft := false
    respOpcode := 0, respPayload := [], err := .none, errSub := .none, ioerrInfo := info }

/-- 10_state.md R45: the values after reset that the spec gives, the empty bus trace among them. -/
def Obligations.ResetStateHasSpecValues : Prop :=
  State.reset.devstate = .idle ∧ State.reset.txstate = .idle ∧ State.reset.cmdOpcode = 0 ∧
  State.reset.cmdPayload = [] ∧ State.reset.txbuf = [] ∧ State.reset.tAck = 1000 ∧
  State.reset.tResp = State.reset.params.tRespDefault ∧ State.reset.elapsed = 0 ∧ State.reset.nextpoll = 0 ∧
  State.reset.retryLeft = false ∧ State.reset.respOpcode = 0 ∧ State.reset.respPayload = [] ∧
  State.reset.err = .none ∧ State.reset.errSub = .none ∧ State.reset.trace = []

/-! ## Chip-to-host frames (log entry 6, the model's choice) -/

/-- A chip-to-host information frame in `ResponseWait` with a poll due is read by that poll: it completes the transaction
when its opcode correlates and fails it with `OpcodeMismatch` otherwise. Every status byte it may come behind is ready. -/
def Obligations.ResponseFrameReadByDuePoll : Prop :=
  ∀ (i : Instr) (op : Byte) (p tail : Bytes) (s : State), i.responseOf = some (op, p, tail) → p.length ≤ 253 →
    s.pollRespDue = true →
    ∃ status : Byte, status &&& s.params.readyMask.val ≠ 0 ∧
      let read : State := { s with
        draws := s.draws + 1
        trace := s.trace ++ [.read s.params.i2cAddr 263 (.ok ((status :: (wireFrame 0xD5 op p ++ tail)).take 263))] }
      (op = s.cmdOpcode + 1 → exec i s = .next { read with
        respOpcode := op, respPayload := p, txstate := .done
        devstate := if s.cmdOpcode = 0x16 then .poweredDown else .idle }) ∧
      (op ≠ s.cmdOpcode + 1 → exec i s = .next { read with
        txstate := .failed, devstate := .error, err := .opcodeMismatch, errSub := .none })

/-- The ACK frame in `AckWait` with a poll due is the ACK that the poll looks for; an information frame there is a
mismatch (70_reset_and_hazards.md R312). -/
def Obligations.FrameReadByDueAckPoll : Prop :=
  ∀ (s : State) (tail : Bytes), s.pollAckDue = true →
    ∃ status : Byte, status &&& s.params.readyMask.val ≠ 0 ∧
      exec (.ackFrame tail) s = .next { s with
        draws := s.draws + 1
        trace := s.trace ++
          [.read s.params.i2cAddr 7 (.ok [status, 0x00, 0x00, 0xFF, 0x00, 0xFF, 0x00])]
        txstate := .responseWait, devstate := .awaitingResponse, elapsed := 0, nextpoll := 0 } ∧
      ∀ (i : Instr) (op : Byte) (p t : Bytes), i.responseOf = some (op, p, t) → p.length ≤ 253 →
        exec i s = .next { s with
          draws := s.draws + 1
          trace := s.trace ++
            [.read s.params.i2cAddr 7 (.ok (status :: (wireFrame 0xD5 op p).take 6))]
          txstate := .failed, devstate := .error, err := .ackMismatch, errSub := .none }

/-- A second ACK in `ResponseWait` (60_exceptions.md R258): with three bytes after it the buffer is long enough to be
decoded and the transaction fails with `UnexpectedAck`; with fewer it is short, so not ready (20_memory.md R68). -/
def Obligations.AckFrameInResponseWait : Prop :=
  ∀ (s : State) (tail : Bytes), s.pollRespDue = true →
    ∃ status : Byte, status &&& s.params.readyMask.val ≠ 0 ∧
      let read : State := { s with
        draws := s.draws + 1
        trace := s.trace ++ [.read s.params.i2cAddr 263
          (.ok ((status :: ([0x00, 0x00, 0xFF, 0x00, 0xFF, 0x00] ++ tail)).take 263))] }
      (3 ≤ tail.length → exec (.ackFrame tail) s = .next { read with
        txstate := .failed, devstate := .error, err := .unexpectedAck, errSub := .none }) ∧
      (tail.length < 3 → s.elapsed.toNat < s.tResp.toNat →
        exec (.ackFrame tail) s = .next (read.schedulePoll s.tResp)) ∧
      (tail.length < 3 → s.tResp.toNat ≤ s.elapsed.toNat →
        exec (.ackFrame tail) s = .next { read with
          txstate := .failed, devstate := .error, err := .responseTimeout, errSub := .none })

/-- With no poll due, the chip holds the frame: it becomes the answer of the next read, and no register changes
(70_reset_and_hazards.md R301; log entry 6). -/
def Obligations.FrameHeldUntilNextRead : Prop :=
  ∀ (s : State), s.pollAckDue = false → s.pollRespDue = false →
    ∃ status : Byte, status &&& s.params.readyMask.val ≠ 0 ∧
      (∀ tail, exec (.ackFrame tail) s = .next { s with
        draws := s.draws + 1
        readAns := .ok (status :: ([0x00, 0x00, 0xFF, 0x00, 0xFF, 0x00] ++ tail)) :: s.readAns }) ∧
      (∀ (i : Instr) (op : Byte) (p tail : Bytes), i.responseOf = some (op, p, tail) → p.length ≤ 253 →
        exec i s = .next { s with
          draws := s.draws + 1
          readAns := .ok (status :: (wireFrame 0xD5 op p ++ tail)) :: s.readAns })

/-- Wire bytes that are no frame (30_encoding.md R110) reach the block as what the chip has ready (log entry 7, the model's
choice). The ACK poll that is due finds a mismatch (41_handshake.md R164, R167), or a short buffer (20_memory.md R68; R165,
R168); the response poll that is due finds a malformed frame with the sub-cause of `DECODE` (R174), or a short buffer (R173);
with no poll due the bytes are the answer of the next read. -/
def Obligations.UndecodedBytesReadByDuePoll : Prop :=
  ∀ (s : State) (b : Bytes) (rest : List Input) (sub : ErrSub), s.pending = .wire b :: rest → decode b = .error sub →
    ∃ status : Byte, status &&& s.params.readyMask.val ≠ 0 ∧
      let read : Nat → State := fun len => { s with
        pending := rest
        draws := s.draws + 1
        trace := s.trace ++ [.read s.params.i2cAddr len (.ok ((status :: b).take len))] }
      (s.pollAckDue = true →
        (6 ≤ b.length → step s = .next { read 7 with
          txstate := .failed, devstate := .error, err := .ackMismatch, errSub := .none }) ∧
        (b.length < 6 → s.elapsed.toNat < s.tAck.toNat →
          ∃ n : Timer, n.toNat = min (s.elapsed.toNat + s.params.pollInterval.val) s.tAck.toNat ∧
            step s = .next { read 7 with nextpoll := n }) ∧
        (b.length < 6 → s.tAck.toNat ≤ s.elapsed.toNat →
          (s.retryLeft = false → step s = .next { read 7 with
            txstate := .failed, devstate := .error, err := .ackTimeout, errSub := .none }) ∧
          (s.retryLeft = true → (read 7).nextWrite = .ok → step s = .next { (read 7).afterWrite s.txbuf with
            retryLeft := false, elapsed := 0, nextpoll := 0 }) ∧
          (∀ info, s.retryLeft = true → (read 7).nextWrite = .ioErr info →
            step s = .next { (read 7).afterWrite s.txbuf with
              retryLeft := false, txstate := .failed, devstate := .error, err := .ioError, errSub := .none
              ioerrInfo := info }))) ∧
      (s.pollRespDue = true →
        (9 ≤ b.length → step s = .next { read 263 with
          txstate := .failed, devstate := .error, err := .malformedFrame, errSub := sub }) ∧
        (b.length < 9 → s.elapsed.toNat < s.tResp.toNat →
          ∃ n : Timer, n.toNat = min (s.elapsed.toNat + s.params.pollInterval.val) s.tResp.toNat ∧
            step s = .next { read 263 with nextpoll := n }) ∧
        (b.length < 9 → s.tResp.toNat ≤ s.elapsed.toNat → step s = .next { read 263 with
          txstate := .failed, devstate := .error, err := .responseTimeout, errSub := .none })) ∧
      (s.pollAckDue = false → s.pollRespDue = false → step s = .next { s with
        pending := rest
        draws := s.draws + 1
        readAns := .ok (status :: b) :: s.readAns })

/-! ## The macro-sequences -/

/-- 43_controller_sequences.md R221, R220: `GETFW` runs the firmware command to its end and returns the four payload bytes,
`ProtocolError` on any other length, or the transaction's own error. -/
def Obligations.GetfwReturnsFirmwareOrError : Prop :=
  ∀ s : State, s.busy = false → ∃ t : State, exec .getfw s = .next t ∧
    t = { transact 0x02 [] none none s with ret := t.ret } ∧
    (t.txstate = .done ∨ t.txstate = .failed) ∧
    (s.devstate ≠ .poweredDown → ∃ a rest,
      t.trace = s.trace ++ .write s.params.i2cAddr [0x00, 0x00, 0xFF, 0x02, 0xFE, 0xD4, 0x02, 0x2A, 0x00] a :: rest ∧
      t.cmdOpcode = 0x02 ∧ t.cmdPayload = [] ∧ t.tAck = 1000 ∧ t.tResp = s.params.tRespDefault) ∧
    (t.txstate = .failed → t.ret = .failed t.err) ∧
    (t.txstate = .done → t.respOpcode = 0x03 ∧ t.devstate = .idle ∧
      (∀ ic ver rev support, t.respPayload = [ic, ver, rev, support] → t.ret = .firmware ic ver rev support) ∧
      (t.respPayload.length ≠ 4 → t.ret = .failed .protocolError))

/-- 43_controller_sequences.md R223, R225: `SETUP` sends the SAM command, then the RF command only if the first is `Done`,
and names the sub-command that failed. -/
def Obligations.SetupFailsFastOnFirstFailure : Prop :=
  ∀ s : State, s.busy = false → ∃ t : State, exec .setup s = .next t ∧
    (let first := transact 0x14 s.params.samPayload.val none none s
      let second := transact 0x32 s.params.rfPayload.val none none first
      (first.txstate = .failed → t = { first with ret := .setupFailed .samConfiguration }) ∧
      (first.txstate ≠ .failed → second.txstate = .failed → t = { second with ret := .setupFailed .rfConfiguration }) ∧
      (first.txstate ≠ .failed → second.txstate ≠ .failed → t = { second with ret := .success })) ∧
    (s.devstate ≠ .poweredDown → ∃ a rest,
      t.trace = s.trace ++ .write s.params.i2cAddr (wireFrame 0xD4 0x14 s.params.samPayload.val) a :: rest ∧
      (t.ret = .setupFailed .samConfiguration → t.txstate = .failed ∧ t.cmdOpcode = 0x14 ∧
        ∀ e ∈ rest, ∀ addr b w, e = .write addr b w → b = wireFrame 0xD4 0x14 s.params.samPayload.val) ∧
      (t.ret ≠ .setupFailed .samConfiguration →
        t.cmdOpcode = 0x32 ∧ t.cmdPayload = s.params.rfPayload.val ∧
        ∃ w, .write s.params.i2cAddr (wireFrame 0xD4 0x32 s.params.rfPayload.val) w ∈ rest)) ∧
    (s.devstate = .poweredDown → t.ret = .setupFailed .samConfiguration ∧ t.err = .deviceAsleep ∧ t.trace = s.trace) ∧
    (t.ret = .setupFailed .samConfiguration ∨ t.ret = .setupFailed .rfConfiguration ∨ t.ret = .success) ∧
    (t.ret = .setupFailed .rfConfiguration → t.txstate = .failed) ∧
    (t.ret = .success → t.txstate = .done ∧ t.respOpcode = 0x33)

/-- 43_controller_sequences.md R226, R228: `LIST t` bounds the response wait by `t`, leaves the ACK timeout at its default,
and returns the targets; a count of zero is the empty sequence, never an error. -/
def Obligations.ListReturnsTargetsOrError : Prop :=
  ∀ (s : State) (limit : Timer), s.busy = false → ∃ t : State, exec (.list limit) s = .next t ∧
    t = { transact 0x4A s.params.listPayload.val none (some limit) s with ret := t.ret, draws := t.draws } ∧
    (t.txstate = .done ∨ t.txstate = .failed) ∧
    (s.devstate ≠ .poweredDown → ∃ a rest,
      t.trace = s.trace ++ .write s.params.i2cAddr (wireFrame 0xD4 0x4A s.params.listPayload.val) a :: rest ∧
      t.cmdOpcode = 0x4A ∧ t.tAck = 1000 ∧ t.tResp = limit) ∧
    (t.txstate = .failed → t.ret = .failed t.err) ∧
    (t.txstate = .done → t.respOpcode = 0x4B ∧ t.devstate = .idle ∧ ∃ draw : Nat,
      (parseTargets draw t.respPayload = none → t.ret = .failed .protocolError) ∧
      (∀ ts, parseTargets draw t.respPayload = some ts → t.ret = .targets ts) ∧
      (∀ rest, t.respPayload = 0x00 :: rest → t.ret = .targets []))

/-- 43_controller_sequences.md R229: `PWRDOWN` ends asleep on success and returns the transaction's error otherwise. -/
def Obligations.PwrdownSleepsOnSuccess : Prop :=
  ∀ s : State, s.busy = false → ∃ t : State, exec .pwrdown s = .next t ∧
    t = { transact 0x16 [s.params.pdMask] none none s with ret := t.ret } ∧
    (t.txstate = .done ∨ t.txstate = .failed) ∧
    (s.devstate ≠ .poweredDown → ∃ a rest,
      t.trace = s.trace ++ .write s.params.i2cAddr (wireFrame 0xD4 0x16 [s.params.pdMask]) a :: rest) ∧
    (s.devstate = .poweredDown → t.err = .deviceAsleep ∧ t.trace = s.trace) ∧
    (t.txstate = .failed → t.ret = .failed t.err) ∧
    (t.txstate = .done → t.ret = .success ∧ t.devstate = .poweredDown ∧ t.respOpcode = 0x17)

/-- 43_controller_sequences.md R221, R223, R226, R229: with a chip that acknowledges each command and answers it at the
first poll, every macro-sequence completes with its typed result, and the whole next state is the one shown. -/
def Obligations.MacrosSucceedWithAnsweringChip : Prop :=
  ∀ (s : State) (st1 st2 : Byte) (reads : List ReadAnswer) (writes : List WriteAnswer),
    s.ready → st1 &&& s.params.readyMask.val ≠ 0 → st2 &&& s.params.readyMask.val ≠ 0 → s.writeAns = .ok :: writes →
    (∀ ic ver rev support,
      s.readAns = .ok [st1, 0x00, 0x00, 0xFF, 0x00, 0xFF, 0x00] ::
        .ok (st2 :: wireFrame 0xD5 0x03 [ic, ver, rev, support]) :: reads →
      exec .getfw s = .next { s.answered 0x02 [] s.params.tRespDefault reads writes st1 st2 [ic, ver, rev, support] with
        ret := .firmware ic ver rev support }) ∧
    (∀ limit q ts, q.length ≤ 253 → parseTargets s.draws q = some ts →
      s.readAns = .ok [st1, 0x00, 0x00, 0xFF, 0x00, 0xFF, 0x00] :: .ok (st2 :: wireFrame 0xD5 0x4B q) :: reads →
      exec (.list limit) s = .next { s.answered 0x4A s.params.listPayload.val limit reads writes st1 st2 q with
        draws := s.draws + ts.length, ret := .targets ts }) ∧
    (∀ q, q.length ≤ 253 →
      s.readAns = .ok [st1, 0x00, 0x00, 0xFF, 0x00, 0xFF, 0x00] :: .ok (st2 :: wireFrame 0xD5 0x17 q) :: reads →
      exec .pwrdown s = .next { s.answered 0x16 [s.params.pdMask] s.params.tRespDefault reads writes st1 st2 q with
        ret := .success }) ∧
    (∀ (st3 st4 : Byte) (q1 q2 : Bytes) (w : List WriteAnswer) (r : List ReadAnswer),
      st3 &&& s.params.readyMask.val ≠ 0 → st4 &&& s.params.readyMask.val ≠ 0 → q1.length ≤ 253 → q2.length ≤ 253 →
      writes = .ok :: w →
      reads = .ok [st3, 0x00, 0x00, 0xFF, 0x00, 0xFF, 0x00] :: .ok (st4 :: wireFrame 0xD5 0x33 q2) :: r →
      s.readAns = .ok [st1, 0x00, 0x00, 0xFF, 0x00, 0xFF, 0x00] :: .ok (st2 :: wireFrame 0xD5 0x15 q1) :: reads →
      exec .setup s = .next
        { (s.answered 0x14 s.params.samPayload.val s.params.tRespDefault reads writes st1 st2 q1).answered
            0x32 s.params.rfPayload.val s.params.tRespDefault r w st3 st4 q2 with ret := .success })

/-- 43_controller_sequences.md R227: `parse_targets` accepts exactly a count byte followed by that many targets, each a
UID length, the UID, two ATQA bytes and a SAK, with anything after the last one ignored; `tag_kind` is left free. -/
def Obligations.ParseTargetsReadsListedLayout : Prop :=
  ∀ (draw : Nat) (p : Bytes) (fields : List (Bytes × (Byte × Byte) × Byte)),
    ((∃ ts, parseTargets draw p = some ts ∧ ts.map (fun t => (t.uid, t.atqa, t.sak)) = fields) ↔
      (fields.length < 256 ∧ (∀ f ∈ fields, f.1.length < 256) ∧ ∃ rest : Bytes,
        p = BitVec.ofNat 8 fields.length ::
          (fields.flatMap (fun f => BitVec.ofNat 8 f.1.length :: (f.1 ++ [f.2.1.1, f.2.1.2, f.2.2])) ++ rest)))

/-! ## Rules about the whole machine -/

/-- 10_state.md R23, R24, R25, R27, R28, R33 and 41_handshake.md R172 hold after reset. -/
def Obligations.ResetMeetsInvariant : Prop := State.reset.Inv

/-- The invariant of `State.Inv` (10_state.md R23, R24, R25, R27, R28, R33; 41_handshake.md R172): every step keeps it,
whatever event is pending and whatever the environment answers. -/
def Obligations.StepKeepsInvariant : Prop :=
  ∀ s t : State, s.Inv → step s = .next t → t.Inv

/-- In a state of the invariant, a step with nothing pending completes, and it is the block's own step (41_handshake.md
R170, R172, R179), so the runs of own steps that other statements speak of are runs of `step`. -/
def Obligations.OwnStepNeverStuck : Prop :=
  ∀ s : State, s.Inv → s.pending = [] → step s = .next (ownStep s)

/-- 10_state.md R39 and 20_memory.md R76: no step but a `START` (or what issues one) and `RESET` writes the command
registers, the frame buffer or the timeouts; of the others only `POLL_RESP` (or a frame read by it) writes the result. -/
def Obligations.OnlyStartAndResetWriteCommand : Prop :=
  ∀ (i : Instr) (s t : State), exec i s = .next t → i.startsTransaction = false → i ≠ .reset →
    s.SameCommand t ∧
    (s.txstate ≠ .responseWait → t.respOpcode = s.respOpcode ∧ t.respPayload = s.respPayload)

/-- 20_memory.md R61: which steps reach the bus, and with what. The codec functions, `TICK`, `WAKE` and `RESET` make no
access; an `ACK` poll makes one read of 7 and, exactly when it takes the retry, one write of `TXBUF` after it; a response
poll makes one read of 263; a `START` makes one write, and none when the block is asleep. -/
def Obligations.BusUseOfEachStep : Prop :=
  (∀ (i : Instr) (s t : State), exec i s = .next t →
    (∃ l, i = .lcs l) ∨ (∃ f d, i = .dcs f d) ∨ (∃ o p, i = .encode o p) ∨ (∃ b, i = .isAck b) ∨ (∃ b, i = .decode b) ∨
      i = .tick ∨ i = .wake ∨ i = .reset → t.trace = s.trace) ∧
  (∀ (s t : State), exec .pollAck s = .next t → ∃ a w,
    t.trace = s.trace ++ .read s.params.i2cAddr 7 a :: w ∧
    (w = [] ∧ t.retryLeft = s.retryLeft ∨
      s.retryLeft = true ∧ t.retryLeft = false ∧ ∃ wa, w = [.write s.params.i2cAddr s.txbuf wa])) ∧
  (∀ (s t : State), exec .pollResp s = .next t → ∃ a, t.trace = s.trace ++ [.read s.params.i2cAddr 263 a]) ∧
  (∀ (op : Byte) (p : Bytes) (ta tr : Option Timer) (s t : State), exec (.start op p ta tr) s = .next t →
    (s.devstate = .poweredDown → t.trace = s.trace) ∧
    (s.devstate ≠ .poweredDown → ∃ wa, t.trace = s.trace ++ [.write s.params.i2cAddr (wireFrame 0xD4 op p) wa]))

/-- 20_memory.md R69, R70, R72: whatever the instruction, the trace only grows at its end, every new event is at the one
address, and the configuration and the pending events stay as they are. -/
def Obligations.TraceOnlyGrowsAndConfigurationStays : Prop :=
  ∀ (i : Instr) (s t : State), exec i s = .next t →
    t.params = s.params ∧ t.pending = s.pending ∧
    ∃ new, t.trace = s.trace ++ new ∧
      ∀ e ∈ new, (∃ b a, e = .write s.params.i2cAddr b a) ∨ (∃ n a, e = .read s.params.i2cAddr n a)

/-- 42_system.md R207 (1): nothing puts the block to sleep but the completion of the power-down command. -/
def Obligations.OnlyPowerDownCommandSleeps : Prop :=
  ∀ (i : Instr) (s t : State), exec i s = .next t → s.devstate ≠ .poweredDown → t.devstate = .poweredDown →
    t.txstate = .done ∧ t.cmdOpcode = 0x16 ∧ t.respOpcode = 0x17

/-- 42_system.md R207 (2), (3): a sleeping block stays asleep and off the bus under everything but `WAKE` and `RESET`. -/
def Obligations.SleepingBlockStaysOffTheBus : Prop :=
  ∀ (i : Instr) (s t : State), s.Inv → s.devstate = .poweredDown → exec i s = .next t → i ≠ .wake → i ≠ .reset →
    t.devstate = .poweredDown ∧ t.trace = s.trace

/-- 42_system.md R203, 60_exceptions.md R266: nothing leaves `Done` or `Failed` but a `START` (or what issues one) and
`RESET` (41_handshake.md R160). -/
def Obligations.TerminalStatesLeftOnlyByStartOrReset : Prop :=
  ∀ (i : Instr) (s t : State), exec i s = .next t → i.startsTransaction = false → i ≠ .reset →
    s.txstate = .done ∨ s.txstate = .failed → t.txstate = s.txstate ∧ t.err = s.err ∧ t.errSub = s.errSub

/-- 41_handshake.md R172: in a state of the invariant, the block's own steps end the transaction, after a bounded number of
steps and at most `2 × T_ACK + T_RESP` ticks, whatever the environment answers. -/
def Obligations.TransactionTerminates : Prop :=
  ∀ s : State, s.Inv → s.busy = true → ∃ n,
    n ≤ 4 * s.tAck.toNat + 2 * s.tResp.toNat + 5 ∧
    ((runOwn n s).txstate = .done ∨ (runOwn n s).txstate = .failed) ∧
    ticksIn n s ≤ 2 * s.tAck.toNat + s.tResp.toNat

/-- 41_handshake.md R168, 60_exceptions.md R253: a chip that is never ready. The transaction fails with `AckTimeout` after
exactly one re-send of the same frame and two full windows: the transaction is in flight before each of the `n` own steps, so
each is a poll or a tick, and all but the ACK reads are ticks, `2 × T_ACK` of them. -/
def Obligations.NeverReadyChipGivesAckTimeoutAfterOneRetry : Prop :=
  ∀ (chip : State → ReadAnswer) (s : State),
    (∀ u, ∃ buf, chip u = .ok buf ∧ (buf.length < 7 ∨ buf.getD 0 0 &&& s.params.readyMask.val = 0)) →
    s.txstate = .ackWait → s.elapsed = 0 → s.nextpoll = 0 → s.retryLeft = true → s.nextWrite = .ok →
    ∃ n, (∀ m < n, (runChip chip m s).busy = true) ∧ let t := runChip chip n s
      t.txstate = .failed ∧ t.devstate = .error ∧ t.err = .ackTimeout ∧ t.retryLeft = false ∧ t.elapsed = s.tAck ∧
      (t.trace.drop s.trace.length).filter (fun e => !e.isReadOf 7) = [.write s.params.i2cAddr s.txbuf .ok] ∧
      n = 2 * s.tAck.toNat + ((t.trace.drop s.trace.length).filter (fun e => e.isReadOf 7)).length

/-- 41_handshake.md R171: how many polls a phase makes that times out, `ceil(T / POLL_INTERVAL) + 1`, the last of them at the
deadline, after `T` ticks (the own steps that are not polls): the response phase, and each attempt of the ACK phase, of which
the first ends in the re-send (R168). A short buffer is not ready whatever its status byte (20_memory.md R68). -/
def Obligations.TimedOutPhasePollCount : Prop :=
  ∀ (chip : State → ReadAnswer) (s : State), s.elapsed = 0 → s.nextpoll = 0 →
    (s.txstate = .responseWait →
      (∀ u, ∃ buf, chip u = .ok buf ∧ (buf.length < 10 ∨ buf.getD 0 0 &&& s.params.readyMask.val = 0)) →
      ∃ (n : Nat) (reads : List ReadAnswer), let t := runChip chip n s
        t.txstate = .failed ∧ t.err = .responseTimeout ∧ t.elapsed = s.tResp ∧
        t.trace = s.trace ++ reads.map (.read s.params.i2cAddr 263 ·) ∧
        reads.length = (s.tResp.toNat + s.params.pollInterval.val - 1) / s.params.pollInterval.val + 1 ∧
        n = s.tResp.toNat + reads.length) ∧
    (s.txstate = .ackWait →
      (∀ u, ∃ buf, chip u = .ok buf ∧ (buf.length < 7 ∨ buf.getD 0 0 &&& s.params.readyMask.val = 0)) →
      ∃ (n : Nat) (reads : List ReadAnswer), let t := runChip chip n s
        reads.length = (s.tAck.toNat + s.params.pollInterval.val - 1) / s.params.pollInterval.val + 1 ∧
        n = s.tAck.toNat + reads.length ∧
        (s.retryLeft = false → t.txstate = .failed ∧ t.err = .ackTimeout ∧ t.elapsed = s.tAck ∧
          t.trace = s.trace ++ reads.map (.read s.params.i2cAddr 7 ·)) ∧
        (s.retryLeft = true → t.retryLeft = false ∧ ∃ a,
          t.trace = s.trace ++ reads.map (.read s.params.i2cAddr 7 ·) ++ [.write s.params.i2cAddr s.txbuf a] ∧
          (a = .ok → t.txstate = .ackWait ∧ t.elapsed = 0 ∧ t.nextpoll = 0) ∧
          (∀ info, a = .ioErr info → t.txstate = .failed ∧ t.err = .ioError)))

/-- 41_handshake.md R177: timeout monotonicity. A chip that is not ready before `d` ticks of the response wait and then
answers with a valid, correlated response: `ResponseTimeout` exactly when `T_RESP < d`, for every poll interval. -/
def Obligations.ResponseTimeoutIsMonotone : Prop :=
  ∀ (chip : State → ReadAnswer) (s : State) (d : Nat) (op : Byte) (p : Bytes),
    s.txstate = .responseWait → s.elapsed = 0 → s.nextpoll = 0 → op = s.cmdOpcode + 1 →
    (∀ u : State, u.elapsed.toNat < d →
      ∃ buf, chip u = .ok buf ∧ (buf.length < 10 ∨ buf.getD 0 0 &&& s.params.readyMask.val = 0)) →
    (∀ u : State, d ≤ u.elapsed.toNat → ∃ status b, chip u = .ok (status :: b) ∧ (status :: b).length ≤ 263 ∧
      status &&& s.params.readyMask.val ≠ 0 ∧ decodeFrame b = .ok 0xD5 op p) →
    ∃ n, let t := runChip chip n s
      (s.tResp.toNat < d → t.txstate = .failed ∧ t.err = .responseTimeout) ∧
      (d ≤ s.tResp.toNat → t.txstate = .done ∧ t.respOpcode = op ∧ t.respPayload = p)

/-- 41_handshake.md R177, the same law for `AckWait` with `T_ACK`, per attempt. A chip that is not ready before `d` ticks of
the attempt and then shows the ACK: the attempt reaches `ResponseWait`, on ACK reads alone, exactly when `d ≤ T_ACK`, for
every poll interval; otherwise it ends in `AckTimeout` or, as the first attempt, in the re-send (R168). -/
def Obligations.AckTimeoutIsMonotone : Prop :=
  ∀ (chip : State → ReadAnswer) (s : State) (d : Nat),
    s.txstate = .ackWait → s.elapsed = 0 → s.nextpoll = 0 →
    (∀ u : State, u.elapsed.toNat < d →
      ∃ buf, chip u = .ok buf ∧ (buf.length < 7 ∨ buf.getD 0 0 &&& s.params.readyMask.val = 0)) →
    (∀ u : State, d ≤ u.elapsed.toNat → ∃ status : Byte, status &&& s.params.readyMask.val ≠ 0 ∧
      chip u = .ok [status, 0x00, 0x00, 0xFF, 0x00, 0xFF, 0x00]) →
    ∃ (n : Nat) (reads : List ReadAnswer), let t := runChip chip n s
      (d ≤ s.tAck.toNat → t.txstate = .responseWait ∧ t.elapsed = 0 ∧ t.nextpoll = 0 ∧ t.retryLeft = s.retryLeft ∧
        t.trace = s.trace ++ reads.map (.read s.params.i2cAddr 7 ·)) ∧
      (s.tAck.toNat < d → s.retryLeft = false → t.txstate = .failed ∧ t.err = .ackTimeout ∧
        t.trace = s.trace ++ reads.map (.read s.params.i2cAddr 7 ·)) ∧
      (s.tAck.toNat < d → s.retryLeft = true → t.retryLeft = false ∧ ∃ a,
        t.trace = s.trace ++ reads.map (.read s.params.i2cAddr 7 ·) ++ [.write s.params.i2cAddr s.txbuf a] ∧
        (a = .ok → t.txstate = .ackWait ∧ t.elapsed = 0 ∧ t.nextpoll = 0) ∧
        (∀ info, a = .ioErr info → t.txstate = .failed ∧ t.err = .ioError))

/-- 41_handshake.md R178: the shape of the bus trace of one transaction run to its end: the frame, ACK reads, at most one
re-send of the same frame followed by more ACK reads, then response reads, at least one of them if the ACK was seen. -/
def Obligations.TransactionTraceShape : Prop :=
  ∀ (op : Byte) (p : Bytes) (ta tr : Option Timer) (s t : State),
    s.ready → p.length ≤ 252 → t = transact op p ta tr s →
    ∃ (first : WriteAnswer) (a1 a2 r : List ReadAnswer) (again : List WriteAnswer),
      t.trace = s.trace ++ [.write s.params.i2cAddr (wireFrame 0xD4 op p) first] ++
        a1.map (.read s.params.i2cAddr 7 ·) ++
        again.map (.write s.params.i2cAddr (wireFrame 0xD4 op p) ·) ++
        a2.map (.read s.params.i2cAddr 7 ·) ++
        r.map (.read s.params.i2cAddr 263 ·) ∧
      again.length ≤ 1 ∧
      (again = [] → a2 = []) ∧
      (first ≠ .ok → a1 = [] ∧ again = [] ∧ r = [] ∧ t.err = .ioError) ∧
      (first = .ok → 1 ≤ a1.length) ∧
      (again = [.ok] → 1 ≤ a2.length) ∧
      (∀ info, again = [.ioErr info] → a2 = [] ∧ r = []) ∧
      (∀ status : Byte, status &&& s.params.readyMask.val ≠ 0 →
        .ok [status, 0x00, 0x00, 0xFF, 0x00, 0xFF, 0x00] ∈ a1 ++ a2 → 1 ≤ r.length) ∧
      (t.txstate = .done ∨ t.err = .responseTimeout ∨ t.err = .malformedFrame ∨ t.err = .opcodeMismatch ∨
        t.err = .unexpectedAck → 1 ≤ r.length)
end

