-- ==== Sys2Proof/Laws/State.lean ====
section
/-! SUPPORT. One lemma per field per named update of the state, each true by rfl, so that no later proof unfolds a record
update. -/

namespace Sys2Proof.Machine

/-! ### `afterWrite` -/

@[simp] theorem State.afterWrite_devstate (s : State) (b : Bytes) : (s.afterWrite b).devstate = s.devstate := rfl
@[simp] theorem State.afterWrite_txstate (s : State) (b : Bytes) : (s.afterWrite b).txstate = s.txstate := rfl
@[simp] theorem State.afterWrite_cmdOpcode (s : State) (b : Bytes) : (s.afterWrite b).cmdOpcode = s.cmdOpcode := rfl
@[simp] theorem State.afterWrite_cmdPayload (s : State) (b : Bytes) : (s.afterWrite b).cmdPayload = s.cmdPayload := rfl
@[simp] theorem State.afterWrite_txbuf (s : State) (b : Bytes) : (s.afterWrite b).txbuf = s.txbuf := rfl
@[simp] theorem State.afterWrite_tAck (s : State) (b : Bytes) : (s.afterWrite b).tAck = s.tAck := rfl
@[simp] theorem State.afterWrite_tResp (s : State) (b : Bytes) : (s.afterWrite b).tResp = s.tResp := rfl
@[simp] theorem State.afterWrite_elapsed (s : State) (b : Bytes) : (s.afterWrite b).elapsed = s.elapsed := rfl
@[simp] theorem State.afterWrite_nextpoll (s : State) (b : Bytes) : (s.afterWrite b).nextpoll = s.nextpoll := rfl
@[simp] theorem State.afterWrite_retryLeft (s : State) (b : Bytes) : (s.afterWrite b).retryLeft = s.retryLeft := rfl
@[simp] theorem State.afterWrite_respOpcode (s : State) (b : Bytes) : (s.afterWrite b).respOpcode = s.respOpcode := rfl
@[simp] theorem State.afterWrite_respPayload (s : State) (b : Bytes) : (s.afterWrite b).respPayload = s.respPayload := rfl
@[simp] theorem State.afterWrite_err (s : State) (b : Bytes) : (s.afterWrite b).err = s.err := rfl
@[simp] theorem State.afterWrite_errSub (s : State) (b : Bytes) : (s.afterWrite b).errSub = s.errSub := rfl
@[simp] theorem State.afterWrite_ioerrInfo (s : State) (b : Bytes) : (s.afterWrite b).ioerrInfo = s.ioerrInfo := rfl
@[simp] theorem State.afterWrite_params (s : State) (b : Bytes) : (s.afterWrite b).params = s.params := rfl
@[simp] theorem State.afterWrite_writeAns (s : State) (b : Bytes) : (s.afterWrite b).writeAns = s.writeAns.tail := rfl
@[simp] theorem State.afterWrite_readAns (s : State) (b : Bytes) : (s.afterWrite b).readAns = s.readAns := rfl
@[simp] theorem State.afterWrite_draws (s : State) (b : Bytes) : (s.afterWrite b).draws = if s.writeAns.isEmpty then s.draws + 1 else s.draws := rfl
@[simp] theorem State.afterWrite_trace (s : State) (b : Bytes) : (s.afterWrite b).trace = s.trace ++ [.write s.params.i2cAddr b s.nextWrite] := rfl
@[simp] theorem State.afterWrite_pending (s : State) (b : Bytes) : (s.afterWrite b).pending = s.pending := rfl
@[simp] theorem State.afterWrite_ret (s : State) (b : Bytes) : (s.afterWrite b).ret = s.ret := rfl

/-! ### `afterRead` -/

@[simp] theorem State.afterRead_devstate (s : State) (n : Nat) : (s.afterRead n).devstate = s.devstate := rfl
@[simp] theorem State.afterRead_txstate (s : State) (n : Nat) : (s.afterRead n).txstate = s.txstate := rfl
@[simp] theorem State.afterRead_cmdOpcode (s : State) (n : Nat) : (s.afterRead n).cmdOpcode = s.cmdOpcode := rfl
@[simp] theorem State.afterRead_cmdPayload (s : State) (n : Nat) : (s.afterRead n).cmdPayload = s.cmdPayload := rfl
@[simp] theorem State.afterRead_txbuf (s : State) (n : Nat) : (s.afterRead n).txbuf = s.txbuf := rfl
@[simp] theorem State.afterRead_tAck (s : State) (n : Nat) : (s.afterRead n).tAck = s.tAck := rfl
@[simp] theorem State.afterRead_tResp (s : State) (n : Nat) : (s.afterRead n).tResp = s.tResp := rfl
@[simp] theorem State.afterRead_elapsed (s : State) (n : Nat) : (s.afterRead n).elapsed = s.elapsed := rfl
@[simp] theorem State.afterRead_nextpoll (s : State) (n : Nat) : (s.afterRead n).nextpoll = s.nextpoll := rfl
@[simp] theorem State.afterRead_retryLeft (s : State) (n : Nat) : (s.afterRead n).retryLeft = s.retryLeft := rfl
@[simp] theorem State.afterRead_respOpcode (s : State) (n : Nat) : (s.afterRead n).respOpcode = s.respOpcode := rfl
@[simp] theorem State.afterRead_respPayload (s : State) (n : Nat) : (s.afterRead n).respPayload = s.respPayload := rfl
@[simp] theorem State.afterRead_err (s : State) (n : Nat) : (s.afterRead n).err = s.err := rfl
@[simp] theorem State.afterRead_errSub (s : State) (n : Nat) : (s.afterRead n).errSub = s.errSub := rfl
@[simp] theorem State.afterRead_ioerrInfo (s : State) (n : Nat) : (s.afterRead n).ioerrInfo = s.ioerrInfo := rfl
@[simp] theorem State.afterRead_params (s : State) (n : Nat) : (s.afterRead n).params = s.params := rfl
@[simp] theorem State.afterRead_writeAns (s : State) (n : Nat) : (s.afterRead n).writeAns = s.writeAns := rfl
@[simp] theorem State.afterRead_readAns (s : State) (n : Nat) : (s.afterRead n).readAns = s.readAns.tail := rfl
@[simp] theorem State.afterRead_draws (s : State) (n : Nat) : (s.afterRead n).draws = if s.readAns.isEmpty then s.draws + 1 else s.draws := rfl
@[simp] theorem State.afterRead_trace (s : State) (n : Nat) : (s.afterRead n).trace = s.trace ++ [.read s.params.i2cAddr n (s.nextRead n)] := rfl
@[simp] theorem State.afterRead_pending (s : State) (n : Nat) : (s.afterRead n).pending = s.pending := rfl
@[simp] theorem State.afterRead_ret (s : State) (n : Nat) : (s.afterRead n).ret = s.ret := rfl

/-! ### `raise` -/

@[simp] theorem State.raise_devstate (s : State) (f : Failure) : (s.raise f).devstate = .error := rfl
@[simp] theorem State.raise_txstate (s : State) (f : Failure) : (s.raise f).txstate = .failed := rfl
@[simp] theorem State.raise_cmdOpcode (s : State) (f : Failure) : (s.raise f).cmdOpcode = s.cmdOpcode := rfl
@[simp] theorem State.raise_cmdPayload (s : State) (f : Failure) : (s.raise f).cmdPayload = s.cmdPayload := rfl
@[simp] theorem State.raise_txbuf (s : State) (f : Failure) : (s.raise f).txbuf = s.txbuf := rfl
@[simp] theorem State.raise_tAck (s : State) (f : Failure) : (s.raise f).tAck = s.tAck := rfl
@[simp] theorem State.raise_tResp (s : State) (f : Failure) : (s.raise f).tResp = s.tResp := rfl
@[simp] theorem State.raise_elapsed (s : State) (f : Failure) : (s.raise f).elapsed = s.elapsed := rfl
@[simp] theorem State.raise_nextpoll (s : State) (f : Failure) : (s.raise f).nextpoll = s.nextpoll := rfl
@[simp] theorem State.raise_retryLeft (s : State) (f : Failure) : (s.raise f).retryLeft = s.retryLeft := rfl
@[simp] theorem State.raise_respOpcode (s : State) (f : Failure) : (s.raise f).respOpcode = s.respOpcode := rfl
@[simp] theorem State.raise_respPayload (s : State) (f : Failure) : (s.raise f).respPayload = s.respPayload := rfl
@[simp] theorem State.raise_err (s : State) (f : Failure) : (s.raise f).err = f.kind := rfl
@[simp] theorem State.raise_errSub (s : State) (f : Failure) : (s.raise f).errSub = f.sub := rfl
@[simp] theorem State.raise_ioerrInfo (s : State) (f : Failure) : (s.raise f).ioerrInfo = f.infoOr s.ioerrInfo := rfl
@[simp] theorem State.raise_params (s : State) (f : Failure) : (s.raise f).params = s.params := rfl
@[simp] theorem State.raise_writeAns (s : State) (f : Failure) : (s.raise f).writeAns = s.writeAns := rfl
@[simp] theorem State.raise_readAns (s : State) (f : Failure) : (s.raise f).readAns = s.readAns := rfl
@[simp] theorem State.raise_draws (s : State) (f : Failure) : (s.raise f).draws = s.draws := rfl
@[simp] theorem State.raise_trace (s : State) (f : Failure) : (s.raise f).trace = s.trace := rfl
@[simp] theorem State.raise_pending (s : State) (f : Failure) : (s.raise f).pending = s.pending := rfl
@[simp] theorem State.raise_ret (s : State) (f : Failure) : (s.raise f).ret = s.ret := rfl

/-! ### `failAsleep` -/

@[simp] theorem State.failAsleep_devstate (s : State) : (s.failAsleep).devstate = s.devstate := rfl
@[simp] theorem State.failAsleep_txstate (s : State) : (s.failAsleep).txstate = .failed := rfl
@[simp] theorem State.failAsleep_cmdOpcode (s : State) : (s.failAsleep).cmdOpcode = s.cmdOpcode := rfl
@[simp] theorem State.failAsleep_cmdPayload (s : State) : (s.failAsleep).cmdPayload = s.cmdPayload := rfl
@[simp] theorem State.failAsleep_txbuf (s : State) : (s.failAsleep).txbuf = s.txbuf := rfl
@[simp] theorem State.failAsleep_tAck (s : State) : (s.failAsleep).tAck = s.tAck := rfl
@[simp] theorem State.failAsleep_tResp (s : State) : (s.failAsleep).tResp = s.tResp := rfl
@[simp] theorem State.failAsleep_elapsed (s : State) : (s.failAsleep).elapsed = s.elapsed := rfl
@[simp] theorem State.failAsleep_nextpoll (s : State) : (s.failAsleep).nextpoll = s.nextpoll := rfl
@[simp] theorem State.failAsleep_retryLeft (s : State) : (s.failAsleep).retryLeft = s.retryLeft := rfl
@[simp] theorem State.failAsleep_respOpcode (s : State) : (s.failAsleep).respOpcode = 0 := rfl
@[simp] theorem State.failAsleep_respPayload (s : State) : (s.failAsleep).respPayload = [] := rfl
@[simp] theorem State.failAsleep_err (s : State) : (s.failAsleep).err = .deviceAsleep := rfl
@[simp] theorem State.failAsleep_errSub (s : State) : (s.failAsleep).errSub = .none := rfl
@[simp] theorem State.failAsleep_ioerrInfo (s : State) : (s.failAsleep).ioerrInfo = s.ioerrInfo := rfl
@[simp] theorem State.failAsleep_params (s : State) : (s.failAsleep).params = s.params := rfl
@[simp] theorem State.failAsleep_writeAns (s : State) : (s.failAsleep).writeAns = s.writeAns := rfl
@[simp] theorem State.failAsleep_readAns (s : State) : (s.failAsleep).readAns = s.readAns := rfl
@[simp] theorem State.failAsleep_draws (s : State) : (s.failAsleep).draws = s.draws := rfl
@[simp] theorem State.failAsleep_trace (s : State) : (s.failAsleep).trace = s.trace := rfl
@[simp] theorem State.failAsleep_pending (s : State) : (s.failAsleep).pending = s.pending := rfl
@[simp] theorem State.failAsleep_ret (s : State) : (s.failAsleep).ret = s.ret := rfl

/-! ### `enterAckWait` -/

@[simp] theorem State.enterAckWait_devstate (s : State) : (s.enterAckWait).devstate = .awaitingAck := rfl
@[simp] theorem State.enterAckWait_txstate (s : State) : (s.enterAckWait).txstate = .ackWait := rfl
@[simp] theorem State.enterAckWait_cmdOpcode (s : State) : (s.enterAckWait).cmdOpcode = s.cmdOpcode := rfl
@[simp] theorem State.enterAckWait_cmdPayload (s : State) : (s.enterAckWait).cmdPayload = s.cmdPayload := rfl
@[simp] theorem State.enterAckWait_txbuf (s : State) : (s.enterAckWait).txbuf = s.txbuf := rfl
@[simp] theorem State.enterAckWait_tAck (s : State) : (s.enterAckWait).tAck = s.tAck := rfl
@[simp] theorem State.enterAckWait_tResp (s : State) : (s.enterAckWait).tResp = s.tResp := rfl
@[simp] theorem State.enterAckWait_elapsed (s : State) : (s.enterAckWait).elapsed = 0 := rfl
@[simp] theorem State.enterAckWait_nextpoll (s : State) : (s.enterAckWait).nextpoll = 0 := rfl
@[simp] theorem State.enterAckWait_retryLeft (s : State) : (s.enterAckWait).retryLeft = s.retryLeft := rfl
@[simp] theorem State.enterAckWait_respOpcode (s : State) : (s.enterAckWait).respOpcode = s.respOpcode := rfl
@[simp] theorem State.enterAckWait_respPayload (s : State) : (s.enterAckWait).respPayload = s.respPayload := rfl
@[simp] theorem State.enterAckWait_err (s : State) : (s.enterAckWait).err = s.err := rfl
@[simp] theorem State.enterAckWait_errSub (s : State) : (s.enterAckWait).errSub = s.errSub := rfl
@[simp] theorem State.enterAckWait_ioerrInfo (s : State) : (s.enterAckWait).ioerrInfo = s.ioerrInfo := rfl
@[simp] theorem State.enterAckWait_params (s : State) : (s.enterAckWait).params = s.params := rfl
@[simp] theorem State.enterAckWait_writeAns (s : State) : (s.enterAckWait).writeAns = s.writeAns := rfl
@[simp] theorem State.enterAckWait_readAns (s : State) : (s.enterAckWait).readAns = s.readAns := rfl
@[simp] theorem State.enterAckWait_draws (s : State) : (s.enterAckWait).draws = s.draws := rfl
@[simp] theorem State.enterAckWait_trace (s : State) : (s.enterAckWait).trace = s.trace := rfl
@[simp] theorem State.enterAckWait_pending (s : State) : (s.enterAckWait).pending = s.pending := rfl
@[simp] theorem State.enterAckWait_ret (s : State) : (s.enterAckWait).ret = s.ret := rfl

/-! ### `enterResponseWait` -/

@[simp] theorem State.enterResponseWait_devstate (s : State) : (s.enterResponseWait).devstate = .awaitingResponse := rfl
@[simp] theorem State.enterResponseWait_txstate (s : State) : (s.enterResponseWait).txstate = .responseWait := rfl
@[simp] theorem State.enterResponseWait_cmdOpcode (s : State) : (s.enterResponseWait).cmdOpcode = s.cmdOpcode := rfl
@[simp] theorem State.enterResponseWait_cmdPayload (s : State) : (s.enterResponseWait).cmdPayload = s.cmdPayload := rfl
@[simp] theorem State.enterResponseWait_txbuf (s : State) : (s.enterResponseWait).txbuf = s.txbuf := rfl
@[simp] theorem State.enterResponseWait_tAck (s : State) : (s.enterResponseWait).tAck = s.tAck := rfl
@[simp] theorem State.enterResponseWait_tResp (s : State) : (s.enterResponseWait).tResp = s.tResp := rfl
@[simp] theorem State.enterResponseWait_elapsed (s : State) : (s.enterResponseWait).elapsed = 0 := rfl
@[simp] theorem State.enterResponseWait_nextpoll (s : State) : (s.enterResponseWait).nextpoll = 0 := rfl
@[simp] theorem State.enterResponseWait_retryLeft (s : State) : (s.enterResponseWait).retryLeft = s.retryLeft := rfl
@[simp] theorem State.enterResponseWait_respOpcode (s : State) : (s.enterResponseWait).respOpcode = s.respOpcode := rfl
@[simp] theorem State.enterResponseWait_respPayload (s : State) : (s.enterResponseWait).respPayload = s.respPayload := rfl
@[simp] theorem State.enterResponseWait_err (s : State) : (s.enterResponseWait).err = s.err := rfl
@[simp] theorem State.enterResponseWait_errSub (s : State) : (s.enterResponseWait).errSub = s.errSub := rfl
@[simp] theorem State.enterResponseWait_ioerrInfo (s : State) : (s.enterResponseWait).ioerrInfo = s.ioerrInfo := rfl
@[simp] theorem State.enterResponseWait_params (s : State) : (s.enterResponseWait).params = s.params := rfl
@[simp] theorem State.enterResponseWait_writeAns (s : State) : (s.enterResponseWait).writeAns = s.writeAns := rfl
@[simp] theorem State.enterResponseWait_readAns (s : State) : (s.enterResponseWait).readAns = s.readAns := rfl
@[simp] theorem State.enterResponseWait_draws (s : State) : (s.enterResponseWait).draws = s.draws := rfl
@[simp] theorem State.enterResponseWait_trace (s : State) : (s.enterResponseWait).trace = s.trace := rfl
@[simp] theorem State.enterResponseWait_pending (s : State) : (s.enterResponseWait).pending = s.pending := rfl
@[simp] theorem State.enterResponseWait_ret (s : State) : (s.enterResponseWait).ret = s.ret := rfl

/-! ### `latchCommand` -/

@[simp] theorem State.latchCommand_devstate (s : State) (op : Byte) (p : Bytes) (ta tr : Option Timer) : (s.latchCommand op p ta tr).devstate = s.devstate := rfl
@[simp] theorem State.latchCommand_txstate (s : State) (op : Byte) (p : Bytes) (ta tr : Option Timer) : (s.latchCommand op p ta tr).txstate = s.txstate := rfl
@[simp] theorem State.latchCommand_cmdOpcode (s : State) (op : Byte) (p : Bytes) (ta tr : Option Timer) : (s.latchCommand op p ta tr).cmdOpcode = op := rfl
@[simp] theorem State.latchCommand_cmdPayload (s : State) (op : Byte) (p : Bytes) (ta tr : Option Timer) : (s.latchCommand op p ta tr).cmdPayload = p := rfl
@[simp] theorem State.latchCommand_txbuf (s : State) (op : Byte) (p : Bytes) (ta tr : Option Timer) : (s.latchCommand op p ta tr).txbuf = infoFrameBytes Config.tfiH2C op p := rfl
@[simp] theorem State.latchCommand_tAck (s : State) (op : Byte) (p : Bytes) (ta tr : Option Timer) : (s.latchCommand op p ta tr).tAck = ackTimeoutOperand ta := rfl
@[simp] theorem State.latchCommand_tResp (s : State) (op : Byte) (p : Bytes) (ta tr : Option Timer) : (s.latchCommand op p ta tr).tResp = respTimeoutOperand s.params tr := rfl
@[simp] theorem State.latchCommand_elapsed (s : State) (op : Byte) (p : Bytes) (ta tr : Option Timer) : (s.latchCommand op p ta tr).elapsed = s.elapsed := rfl
@[simp] theorem State.latchCommand_nextpoll (s : State) (op : Byte) (p : Bytes) (ta tr : Option Timer) : (s.latchCommand op p ta tr).nextpoll = s.nextpoll := rfl
@[simp] theorem State.latchCommand_retryLeft (s : State) (op : Byte) (p : Bytes) (ta tr : Option Timer) : (s.latchCommand op p ta tr).retryLeft = true := rfl
@[simp] theorem State.latchCommand_respOpcode (s : State) (op : Byte) (p : Bytes) (ta tr : Option Timer) : (s.latchCommand op p ta tr).respOpcode = 0 := rfl
@[simp] theorem State.latchCommand_respPayload (s : State) (op : Byte) (p : Bytes) (ta tr : Option Timer) : (s.latchCommand op p ta tr).respPayload = [] := rfl
@[simp] theorem State.latchCommand_err (s : State) (op : Byte) (p : Bytes) (ta tr : Option Timer) : (s.latchCommand op p ta tr).err = .none := rfl
@[simp] theorem State.latchCommand_errSub (s : State) (op : Byte) (p : Bytes) (ta tr : Option Timer) : (s.latchCommand op p ta tr).errSub = .none := rfl
@[simp] theorem State.latchCommand_ioerrInfo (s : State) (op : Byte) (p : Bytes) (ta tr : Option Timer) : (s.latchCommand op p ta tr).ioerrInfo = s.ioerrInfo := rfl
@[simp] theorem State.latchCommand_params (s : State) (op : Byte) (p : Bytes) (ta tr : Option Timer) : (s.latchCommand op p ta tr).params = s.params := rfl
@[simp] theorem State.latchCommand_writeAns (s : State) (op : Byte) (p : Bytes) (ta tr : Option Timer) : (s.latchCommand op p ta tr).writeAns = s.writeAns := rfl
@[simp] theorem State.latchCommand_readAns (s : State) (op : Byte) (p : Bytes) (ta tr : Option Timer) : (s.latchCommand op p ta tr).readAns = s.readAns := rfl
@[simp] theorem State.latchCommand_draws (s : State) (op : Byte) (p : Bytes) (ta tr : Option Timer) : (s.latchCommand op p ta tr).draws = s.draws := rfl
@[simp] theorem State.latchCommand_trace (s : State) (op : Byte) (p : Bytes) (ta tr : Option Timer) : (s.latchCommand op p ta tr).trace = s.trace := rfl
@[simp] theorem State.latchCommand_pending (s : State) (op : Byte) (p : Bytes) (ta tr : Option Timer) : (s.latchCommand op p ta tr).pending = s.pending := rfl
@[simp] theorem State.latchCommand_ret (s : State) (op : Byte) (p : Bytes) (ta tr : Option Timer) : (s.latchCommand op p ta tr).ret = s.ret := rfl

/-! ### `schedulePoll` -/

@[simp] theorem State.schedulePoll_devstate (s : State) (limit : Timer) : (s.schedulePoll limit).devstate = s.devstate := rfl
@[simp] theorem State.schedulePoll_txstate (s : State) (limit : Timer) : (s.schedulePoll limit).txstate = s.txstate := rfl
@[simp] theorem State.schedulePoll_cmdOpcode (s : State) (limit : Timer) : (s.schedulePoll limit).cmdOpcode = s.cmdOpcode := rfl
@[simp] theorem State.schedulePoll_cmdPayload (s : State) (limit : Timer) : (s.schedulePoll limit).cmdPayload = s.cmdPayload := rfl
@[simp] theorem State.schedulePoll_txbuf (s : State) (limit : Timer) : (s.schedulePoll limit).txbuf = s.txbuf := rfl
@[simp] theorem State.schedulePoll_tAck (s : State) (limit : Timer) : (s.schedulePoll limit).tAck = s.tAck := rfl
@[simp] theorem State.schedulePoll_tResp (s : State) (limit : Timer) : (s.schedulePoll limit).tResp = s.tResp := rfl
@[simp] theorem State.schedulePoll_elapsed (s : State) (limit : Timer) : (s.schedulePoll limit).elapsed = s.elapsed := rfl
@[simp] theorem State.schedulePoll_nextpoll (s : State) (limit : Timer) : (s.schedulePoll limit).nextpoll = BitVec.ofNat 32 (min (s.elapsed.toNat + s.params.pollInterval.val) limit.toNat) := rfl
@[simp] theorem State.schedulePoll_retryLeft (s : State) (limit : Timer) : (s.schedulePoll limit).retryLeft = s.retryLeft := rfl
@[simp] theorem State.schedulePoll_respOpcode (s : State) (limit : Timer) : (s.schedulePoll limit).respOpcode = s.respOpcode := rfl
@[simp] theorem State.schedulePoll_respPayload (s : State) (limit : Timer) : (s.schedulePoll limit).respPayload = s.respPayload := rfl
@[simp] theorem State.schedulePoll_err (s : State) (limit : Timer) : (s.schedulePoll limit).err = s.err := rfl
@[simp] theorem State.schedulePoll_errSub (s : State) (limit : Timer) : (s.schedulePoll limit).errSub = s.errSub := rfl
@[simp] theorem State.schedulePoll_ioerrInfo (s : State) (limit : Timer) : (s.schedulePoll limit).ioerrInfo = s.ioerrInfo := rfl
@[simp] theorem State.schedulePoll_params (s : State) (limit : Timer) : (s.schedulePoll limit).params = s.params := rfl
@[simp] theorem State.schedulePoll_writeAns (s : State) (limit : Timer) : (s.schedulePoll limit).writeAns = s.writeAns := rfl
@[simp] theorem State.schedulePoll_readAns (s : State) (limit : Timer) : (s.schedulePoll limit).readAns = s.readAns := rfl
@[simp] theorem State.schedulePoll_draws (s : State) (limit : Timer) : (s.schedulePoll limit).draws = s.draws := rfl
@[simp] theorem State.schedulePoll_trace (s : State) (limit : Timer) : (s.schedulePoll limit).trace = s.trace := rfl
@[simp] theorem State.schedulePoll_pending (s : State) (limit : Timer) : (s.schedulePoll limit).pending = s.pending := rfl
@[simp] theorem State.schedulePoll_ret (s : State) (limit : Timer) : (s.schedulePoll limit).ret = s.ret := rfl

/-! ### `returning` -/

@[simp] theorem State.returning_devstate (s : State) (r : Result) : (s.returning r).devstate = s.devstate := rfl
@[simp] theorem State.returning_txstate (s : State) (r : Result) : (s.returning r).txstate = s.txstate := rfl
@[simp] theorem State.returning_cmdOpcode (s : State) (r : Result) : (s.returning r).cmdOpcode = s.cmdOpcode := rfl
@[simp] theorem State.returning_cmdPayload (s : State) (r : Result) : (s.returning r).cmdPayload = s.cmdPayload := rfl
@[simp] theorem State.returning_txbuf (s : State) (r : Result) : (s.returning r).txbuf = s.txbuf := rfl
@[simp] theorem State.returning_tAck (s : State) (r : Result) : (s.returning r).tAck = s.tAck := rfl
@[simp] theorem State.returning_tResp (s : State) (r : Result) : (s.returning r).tResp = s.tResp := rfl
@[simp] theorem State.returning_elapsed (s : State) (r : Result) : (s.returning r).elapsed = s.elapsed := rfl
@[simp] theorem State.returning_nextpoll (s : State) (r : Result) : (s.returning r).nextpoll = s.nextpoll := rfl
@[simp] theorem State.returning_retryLeft (s : State) (r : Result) : (s.returning r).retryLeft = s.retryLeft := rfl
@[simp] theorem State.returning_respOpcode (s : State) (r : Result) : (s.returning r).respOpcode = s.respOpcode := rfl
@[simp] theorem State.returning_respPayload (s : State) (r : Result) : (s.returning r).respPayload = s.respPayload := rfl
@[simp] theorem State.returning_err (s : State) (r : Result) : (s.returning r).err = s.err := rfl
@[simp] theorem State.returning_errSub (s : State) (r : Result) : (s.returning r).errSub = s.errSub := rfl
@[simp] theorem State.returning_ioerrInfo (s : State) (r : Result) : (s.returning r).ioerrInfo = s.ioerrInfo := rfl
@[simp] theorem State.returning_params (s : State) (r : Result) : (s.returning r).params = s.params := rfl
@[simp] theorem State.returning_writeAns (s : State) (r : Result) : (s.returning r).writeAns = s.writeAns := rfl
@[simp] theorem State.returning_readAns (s : State) (r : Result) : (s.returning r).readAns = s.readAns := rfl
@[simp] theorem State.returning_draws (s : State) (r : Result) : (s.returning r).draws = s.draws := rfl
@[simp] theorem State.returning_trace (s : State) (r : Result) : (s.returning r).trace = s.trace := rfl
@[simp] theorem State.returning_pending (s : State) (r : Result) : (s.returning r).pending = s.pending := rfl
@[simp] theorem State.returning_ret (s : State) (r : Result) : (s.returning r).ret = r := rfl

/-! ### `resetRegisters` -/

@[simp] theorem State.resetRegisters_devstate (s : State) : (s.resetRegisters).devstate = .idle := rfl
@[simp] theorem State.resetRegisters_txstate (s : State) : (s.resetRegisters).txstate = .idle := rfl
@[simp] theorem State.resetRegisters_cmdOpcode (s : State) : (s.resetRegisters).cmdOpcode = 0 := rfl
@[simp] theorem State.resetRegisters_cmdPayload (s : State) : (s.resetRegisters).cmdPayload = [] := rfl
@[simp] theorem State.resetRegisters_txbuf (s : State) : (s.resetRegisters).txbuf = [] := rfl
@[simp] theorem State.resetRegisters_tAck (s : State) : (s.resetRegisters).tAck = Config.tAckDefault := rfl
@[simp] theorem State.resetRegisters_tResp (s : State) : (s.resetRegisters).tResp = s.params.tRespDefault := rfl
@[simp] theorem State.resetRegisters_elapsed (s : State) : (s.resetRegisters).elapsed = 0 := rfl
@[simp] theorem State.resetRegisters_nextpoll (s : State) : (s.resetRegisters).nextpoll = 0 := rfl
@[simp] theorem State.resetRegisters_retryLeft (s : State) : (s.resetRegisters).retryLeft = false := rfl
@[simp] theorem State.resetRegisters_respOpcode (s : State) : (s.resetRegisters).respOpcode = 0 := rfl
@[simp] theorem State.resetRegisters_respPayload (s : State) : (s.resetRegisters).respPayload = [] := rfl
@[simp] theorem State.resetRegisters_err (s : State) : (s.resetRegisters).err = .none := rfl
@[simp] theorem State.resetRegisters_errSub (s : State) : (s.resetRegisters).errSub = .none := rfl
@[simp] theorem State.resetRegisters_ioerrInfo (s : State) : (s.resetRegisters).ioerrInfo = 0 := rfl
@[simp] theorem State.resetRegisters_params (s : State) : (s.resetRegisters).params = s.params := rfl
@[simp] theorem State.resetRegisters_writeAns (s : State) : (s.resetRegisters).writeAns = s.writeAns := rfl
@[simp] theorem State.resetRegisters_readAns (s : State) : (s.resetRegisters).readAns = s.readAns := rfl
@[simp] theorem State.resetRegisters_draws (s : State) : (s.resetRegisters).draws = s.draws := rfl
@[simp] theorem State.resetRegisters_trace (s : State) : (s.resetRegisters).trace = s.trace := rfl
@[simp] theorem State.resetRegisters_pending (s : State) : (s.resetRegisters).pending = s.pending := rfl
@[simp] theorem State.resetRegisters_ret (s : State) : (s.resetRegisters).ret = s.ret := rfl

/-! ### `present` -/

@[simp] theorem State.present_devstate (s : State) (b : Bytes) : (s.present b).devstate = s.devstate := rfl
@[simp] theorem State.present_txstate (s : State) (b : Bytes) : (s.present b).txstate = s.txstate := rfl
@[simp] theorem State.present_cmdOpcode (s : State) (b : Bytes) : (s.present b).cmdOpcode = s.cmdOpcode := rfl
@[simp] theorem State.present_cmdPayload (s : State) (b : Bytes) : (s.present b).cmdPayload = s.cmdPayload := rfl
@[simp] theorem State.present_txbuf (s : State) (b : Bytes) : (s.present b).txbuf = s.txbuf := rfl
@[simp] theorem State.present_tAck (s : State) (b : Bytes) : (s.present b).tAck = s.tAck := rfl
@[simp] theorem State.present_tResp (s : State) (b : Bytes) : (s.present b).tResp = s.tResp := rfl
@[simp] theorem State.present_elapsed (s : State) (b : Bytes) : (s.present b).elapsed = s.elapsed := rfl
@[simp] theorem State.present_nextpoll (s : State) (b : Bytes) : (s.present b).nextpoll = s.nextpoll := rfl
@[simp] theorem State.present_retryLeft (s : State) (b : Bytes) : (s.present b).retryLeft = s.retryLeft := rfl
@[simp] theorem State.present_respOpcode (s : State) (b : Bytes) : (s.present b).respOpcode = s.respOpcode := rfl
@[simp] theorem State.present_respPayload (s : State) (b : Bytes) : (s.present b).respPayload = s.respPayload := rfl
@[simp] theorem State.present_err (s : State) (b : Bytes) : (s.present b).err = s.err := rfl
@[simp] theorem State.present_errSub (s : State) (b : Bytes) : (s.present b).errSub = s.errSub := rfl
@[simp] theorem State.present_ioerrInfo (s : State) (b : Bytes) : (s.present b).ioerrInfo = s.ioerrInfo := rfl
@[simp] theorem State.present_params (s : State) (b : Bytes) : (s.present b).params = s.params := rfl
@[simp] theorem State.present_writeAns (s : State) (b : Bytes) : (s.present b).writeAns = s.writeAns := rfl
@[simp] theorem State.present_readAns (s : State) (b : Bytes) : (s.present b).readAns = .ok ((Config.freeStatus s.draws ||| s.params.readyMask.val) :: b) :: s.readAns := rfl
@[simp] theorem State.present_draws (s : State) (b : Bytes) : (s.present b).draws = s.draws + 1 := rfl
@[simp] theorem State.present_trace (s : State) (b : Bytes) : (s.present b).trace = s.trace := rfl
@[simp] theorem State.present_pending (s : State) (b : Bytes) : (s.present b).pending = s.pending := rfl
@[simp] theorem State.present_ret (s : State) (b : Bytes) : (s.present b).ret = s.ret := rfl

/-! ### `handWire` -/

@[simp] theorem State.handWire_devstate (s : State) (b : Bytes) : (s.handWire b).devstate = s.devstate := rfl
@[simp] theorem State.handWire_txstate (s : State) (b : Bytes) : (s.handWire b).txstate = s.txstate := rfl
@[simp] theorem State.handWire_cmdOpcode (s : State) (b : Bytes) : (s.handWire b).cmdOpcode = s.cmdOpcode := rfl
@[simp] theorem State.handWire_cmdPayload (s : State) (b : Bytes) : (s.handWire b).cmdPayload = s.cmdPayload := rfl
@[simp] theorem State.handWire_txbuf (s : State) (b : Bytes) : (s.handWire b).txbuf = s.txbuf := rfl
@[simp] theorem State.handWire_tAck (s : State) (b : Bytes) : (s.handWire b).tAck = s.tAck := rfl
@[simp] theorem State.handWire_tResp (s : State) (b : Bytes) : (s.handWire b).tResp = s.tResp := rfl
@[simp] theorem State.handWire_elapsed (s : State) (b : Bytes) : (s.handWire b).elapsed = s.elapsed := rfl
@[simp] theorem State.handWire_nextpoll (s : State) (b : Bytes) : (s.handWire b).nextpoll = s.nextpoll := rfl
@[simp] theorem State.handWire_retryLeft (s : State) (b : Bytes) : (s.handWire b).retryLeft = s.retryLeft := rfl
@[simp] theorem State.handWire_respOpcode (s : State) (b : Bytes) : (s.handWire b).respOpcode = s.respOpcode := rfl
@[simp] theorem State.handWire_respPayload (s : State) (b : Bytes) : (s.handWire b).respPayload = s.respPayload := rfl
@[simp] theorem State.handWire_err (s : State) (b : Bytes) : (s.handWire b).err = s.err := rfl
@[simp] theorem State.handWire_errSub (s : State) (b : Bytes) : (s.handWire b).errSub = s.errSub := rfl
@[simp] theorem State.handWire_ioerrInfo (s : State) (b : Bytes) : (s.handWire b).ioerrInfo = s.ioerrInfo := rfl
@[simp] theorem State.handWire_params (s : State) (b : Bytes) : (s.handWire b).params = s.params := rfl
@[simp] theorem State.handWire_writeAns (s : State) (b : Bytes) : (s.handWire b).writeAns = s.writeAns := rfl
@[simp] theorem State.handWire_readAns (s : State) (b : Bytes) : (s.handWire b).readAns = s.readAns := rfl
@[simp] theorem State.handWire_draws (s : State) (b : Bytes) : (s.handWire b).draws = s.draws := rfl
@[simp] theorem State.handWire_trace (s : State) (b : Bytes) : (s.handWire b).trace = s.trace := rfl
@[simp] theorem State.handWire_pending (s : State) (b : Bytes) : (s.handWire b).pending = .wire b :: s.pending := rfl
@[simp] theorem State.handWire_ret (s : State) (b : Bytes) : (s.handWire b).ret = s.ret := rfl

/-! ### `complete` -/

@[simp] theorem complete_devstate (op : Byte) (p : Bytes) (s : State) : (complete op p s).devstate = if s.cmdOpcode = Config.opPowerdown then .poweredDown else .idle := rfl
@[simp] theorem complete_txstate (op : Byte) (p : Bytes) (s : State) : (complete op p s).txstate = .done := rfl
@[simp] theorem complete_cmdOpcode (op : Byte) (p : Bytes) (s : State) : (complete op p s).cmdOpcode = s.cmdOpcode := rfl
@[simp] theorem complete_cmdPayload (op : Byte) (p : Bytes) (s : State) : (complete op p s).cmdPayload = s.cmdPayload := rfl
@[simp] theorem complete_txbuf (op : Byte) (p : Bytes) (s : State) : (complete op p s).txbuf = s.txbuf := rfl
@[simp] theorem complete_tAck (op : Byte) (p : Bytes) (s : State) : (complete op p s).tAck = s.tAck := rfl
@[simp] theorem complete_tResp (op : Byte) (p : Bytes) (s : State) : (complete op p s).tResp = s.tResp := rfl
@[simp] theorem complete_elapsed (op : Byte) (p : Bytes) (s : State) : (complete op p s).elapsed = s.elapsed := rfl
@[simp] theorem complete_nextpoll (op : Byte) (p : Bytes) (s : State) : (complete op p s).nextpoll = s.nextpoll := rfl
@[simp] theorem complete_retryLeft (op : Byte) (p : Bytes) (s : State) : (complete op p s).retryLeft = s.retryLeft := rfl
@[simp] theorem complete_respOpcode (op : Byte) (p : Bytes) (s : State) : (complete op p s).respOpcode = op := rfl
@[simp] theorem complete_respPayload (op : Byte) (p : Bytes) (s : State) : (complete op p s).respPayload = p := rfl
@[simp] theorem complete_err (op : Byte) (p : Bytes) (s : State) : (complete op p s).err = s.err := rfl
@[simp] theorem complete_errSub (op : Byte) (p : Bytes) (s : State) : (complete op p s).errSub = s.errSub := rfl
@[simp] theorem complete_ioerrInfo (op : Byte) (p : Bytes) (s : State) : (complete op p s).ioerrInfo = s.ioerrInfo := rfl
@[simp] theorem complete_params (op : Byte) (p : Bytes) (s : State) : (complete op p s).params = s.params := rfl
@[simp] theorem complete_writeAns (op : Byte) (p : Bytes) (s : State) : (complete op p s).writeAns = s.writeAns := rfl
@[simp] theorem complete_readAns (op : Byte) (p : Bytes) (s : State) : (complete op p s).readAns = s.readAns := rfl
@[simp] theorem complete_draws (op : Byte) (p : Bytes) (s : State) : (complete op p s).draws = s.draws := rfl
@[simp] theorem complete_trace (op : Byte) (p : Bytes) (s : State) : (complete op p s).trace = s.trace := rfl
@[simp] theorem complete_pending (op : Byte) (p : Bytes) (s : State) : (complete op p s).pending = s.pending := rfl
@[simp] theorem complete_ret (op : Byte) (p : Bytes) (s : State) : (complete op p s).ret = s.ret := rfl

end Sys2Proof.Machine
end

