-- ==== Sys2Proof/Laws/Codec.lean ====
section
/-! SUPPORT. Lemmas about the frame codec: the 8-bit two's complement, the checks of both checksums, the layout of an
information frame, and what an accepted frame has passed. -/

namespace Sys2Proof.Machine

/-- 00_scope.md R10. -/
theorem neg8_toNat (x : Nat) : (neg8 x).toNat = (256 - x % 256) % 256 := by
  simp only [neg8, BitVec.toNat_ofNat]; omega

/-- 30_encoding.md R101: adding the two's complement gives a multiple of 256. -/
theorem add_neg8_mod (x : Nat) : (x + (neg8 x).toNat) % 256 = 0 := by
  rw [neg8_toNat]; omega

/-- 30_encoding.md R94, R97: one byte completes a sum to a multiple of 256. -/
theorem completes_iff_eq_neg8 (x : Nat) (c : Byte) : (x + c.toNat) % 256 = 0 ↔ c = neg8 x := by
  have h := add_neg8_mod x
  have h1 := c.isLt
  have h2 := (neg8 x).isLt
  rw [← BitVec.toNat_inj]
  omega

@[simp] theorem sumBytes_nil : sumBytes [] = 0 := rfl

@[simp] theorem sumBytes_cons (x : Byte) (b : Bytes) : sumBytes (x :: b) = x.toNat + sumBytes b := rfl

@[simp] theorem sumBytes_append (a b : Bytes) : sumBytes (a ++ b) = sumBytes a + sumBytes b := by
  simp [sumBytes]

theorem lcsOk_iff (len c : Byte) : lcsOk len c = true ↔ c = lcsOf len := by
  simp only [lcsOk, lcsOf, beq_iff_eq, completes_iff_eq_neg8]

theorem dcsOk_iff (tfi : Byte) (data : Bytes) (c : Byte) : dcsOk tfi data c = true ↔ c = dcsOf tfi data := by
  simp only [dcsOk, dcsOf, beq_iff_eq, completes_iff_eq_neg8]

/-- 40_framecodec.md R134: `len(payload) + 9`. -/
@[simp] theorem infoFrameBytes_length (tfi op : Byte) (p : Bytes) : (infoFrameBytes tfi op p).length = p.length + 9 := by
  simp [infoFrameBytes]

/-- The model's frame is the one written out in the wire format. -/
theorem infoFrameBytes_eq_wireFrame {p : Bytes} (tfi op : Byte) (h : p.length ≤ 253) :
    infoFrameBytes tfi op p = wireFrame tfi op p := by
  have hl : (BitVec.ofNat 8 (p.length + 2)).toNat = p.length + 2 := by rw [BitVec.toNat_ofNat]; omega
  have h1 : lcsOf (BitVec.ofNat 8 (p.length + 2)) = BitVec.ofNat 8 (256 - (p.length + 2)) := by
    apply BitVec.eq_of_toNat_eq
    rw [lcsOf, neg8_toNat, hl, BitVec.toNat_ofNat, Nat.mod_eq_of_lt (by omega : p.length + 2 < 256)]
  have h2 : dcsOf tfi (op :: p) =
      BitVec.ofNat 8 (256 - (tfi.toNat + op.toNat + (p.map BitVec.toNat).sum) % 256) := by
    apply BitVec.eq_of_toNat_eq
    rw [dcsOf, neg8_toNat, BitVec.toNat_ofNat, sumBytes_cons, ← Nat.add_assoc, sumBytes]
  simp [infoFrameBytes, wireFrame, h1, h2]

/-- `ENCODE` within `MAX_PAYLOAD` (40_framecodec.md R133). -/
theorem encodeFrame_of_le (op : Byte) {p : Bytes} (h : p.length ≤ 252) :
    encodeFrame op p = some (wireFrame Config.tfiH2C op p) := by
  have h' : p.length ≤ Config.maxPayload := h
  rw [encodeFrame, if_pos h', infoFrameBytes_eq_wireFrame _ _ (by omega)]

/-- `ENCODE` above `MAX_PAYLOAD` (30_encoding.md R111). -/
theorem encodeFrame_of_gt (op : Byte) {p : Bytes} (h : 252 < p.length) : encodeFrame op p = none := by
  have h' : ¬ p.length ≤ Config.maxPayload := Nat.not_le.2 h
  rw [encodeFrame, if_neg h']

theorem isAckBytes_iff (b : Bytes) : isAckBytes b = true ↔ ackSentinel <+: b := by
  simp only [isAckBytes, Bool.and_eq_true, decide_eq_true_eq, beq_iff_eq, List.prefix_iff_eq_take]
  constructor
  · rintro ⟨-, h⟩; exact h.symm
  · intro h
    have := congrArg List.length h
    simp [ackSentinel] at this
    exact ⟨by simpa [Config.ackLen] using this, h.symm⟩

/-- A frame whose LEN byte is not 0 is no ACK (40_framecodec.md R134). -/
theorem isAckBytes_false_of_len {b : Bytes} (h : byteAt b 3 ≠ 0) : isAckBytes b = false := by
  rw [Bool.eq_false_iff, Ne, isAckBytes_iff]
  rintro ⟨t, rfl⟩
  exact h rfl

/-- A check of the decoder that rejects. -/
theorem ite_reject_eq_ok {c : Prop} [Decidable c] {e r : DecodeResult} {tfi op : Byte} {p : Bytes}
    (h : e ≠ .ok tfi op p) : (if c then e else r) = .ok tfi op p ↔ ¬ c ∧ r = .ok tfi op p := by
  by_cases hc : c <;> simp [hc, h]

/-- What a byte sequence that decodes has passed: the eleven steps of 40_framecodec.md R137. -/
theorem decodeFrame_eq_ok_iff (b : Bytes) (tfi op : Byte) (p : Bytes) :
    decodeFrame b = .ok tfi op p ↔
      isAckBytes b = false ∧ byteAt b 0 = 0x00 ∧ byteAt b 1 = 0x00 ∧ byteAt b 2 = 0xFF ∧
      byteAt b 4 = lcsOf (byteAt b 3) ∧ 2 ≤ (byteAt b 3).toNat ∧ (byteAt b 3).toNat + 7 ≤ b.length ∧
      (tfi = Config.tfiH2C ∨ tfi = Config.tfiC2H) ∧ byteAt b 5 = tfi ∧ byteAt b 6 = op ∧
      (sumBytes (slice b 5 (5 + (byteAt b 3).toNat)) + (byteAt b (5 + (byteAt b 3).toNat)).toNat) % 256 = 0 ∧
      byteAt b (6 + (byteAt b 3).toNat) = 0x00 ∧ slice b 7 (5 + (byteAt b 3).toNat) = p := by
  unfold decodeFrame
  simp only [ite_reject_eq_ok (show DecodeResult.unexpectedAck ≠ .ok tfi op p by simp),
    ite_reject_eq_ok (show ∀ {sub}, DecodeResult.malformed sub ≠ .ok tfi op p by simp),
    lcsOf, ← completes_iff_eq_neg8, Config.minFrame, ne_eq, not_not, not_or, not_and, not_lt, Bool.not_eq_true,
    DecodeResult.ok.injEq]
  constructor
  · rintro ⟨h1, -, h3, ⟨h4, h4'⟩, h5, h6, h7, h8, h9, h10, rfl, rfl, rfl⟩
    refine ⟨h1, h3, h4, h4', h5, h6, h7, ?_, rfl, rfl, h9, h10, rfl⟩
    by_cases h : byteAt b 5 = Config.tfiH2C
    · exact .inl h
    · exact .inr (h8 h)
  · rintro ⟨h1, h3, h4, h4', h5, h6, h7, h8, rfl, rfl, h9, h10, rfl⟩
    exact ⟨h1, by omega, h3, ⟨h4, h4'⟩, h5, h6, h7, fun h => h8.resolve_left h, h9, h10, rfl, rfl, rfl⟩

/-- 40_framecodec.md R137: a frame written out decodes, whatever follows it. -/
theorem decodeFrame_wireFrame_append (tfi op : Byte) (p t : Bytes) (ht : tfi = 0xD4 ∨ tfi = 0xD5) (hp : p.length ≤ 253) :
    decodeFrame (wireFrame tfi op p ++ t) = .ok tfi op p := by
  have h3 : (BitVec.ofNat 8 (p.length + 2)).toNat = p.length + 2 := by rw [BitVec.toNat_ofNat]; omega
  have hf := infoFrameBytes_eq_wireFrame tfi op hp
  rw [← hf]
  have e3 : byteAt (infoFrameBytes tfi op p ++ t) 3 = BitVec.ofNat 8 (p.length + 2) := rfl
  have key : infoFrameBytes tfi op p ++ t =
      [0, 0, 0xFF, BitVec.ofNat 8 (p.length + 2), lcsOf (BitVec.ofNat 8 (p.length + 2))] ++
        ((tfi :: op :: p) ++ (dcsOf tfi (op :: p) :: 0 :: t)) := by
    simp [infoFrameBytes]
  rw [decodeFrame_eq_ok_iff, e3, h3]
  refine ⟨isAckBytes_false_of_len ?_, rfl, rfl, rfl, rfl, by omega, by simp, ht, rfl, rfl, ?_, ?_, ?_⟩
  · rw [e3]; intro h; have := congrArg BitVec.toNat h; rw [h3] at this; simp at this
  · have hs : slice (infoFrameBytes tfi op p ++ t) 5 (5 + (p.length + 2)) = tfi :: op :: p := by
      rw [key]; simp [slice]
    have hb : byteAt (infoFrameBytes tfi op p ++ t) (5 + (p.length + 2)) = dcsOf tfi (op :: p) := by
      rw [key]; simp [byteAt, Nat.add_comm 5]
    rw [hs, hb]
    have := add_neg8_mod (tfi.toNat + sumBytes (op :: p))
    simpa [dcsOf, Nat.add_assoc] using this
  · rw [key]
    have : 6 + (p.length + 2) = p.length + 1 + 1 + 1 + 1 + 1 + 1 + 1 + 1 := by omega
    simp [byteAt, this]
  · rw [key]; simp [slice, Nat.add_comm 5]

/-- 40_framecodec.md R139: `DECODE` looks at no byte beyond the longest frame, so a read that is cut there decodes alike. -/
theorem decodeFrame_take_maxFrame (b : Bytes) : decodeFrame (b.take Config.maxFrame) = decodeFrame b := by
  by_cases hl : b.length ≤ Config.maxFrame
  · rw [List.take_of_length_le hl]
  have hlen : (b.take Config.maxFrame).length = 262 := by simp [Config.maxFrame] at hl ⊢; omega
  have hL := (byteAt b 3).isLt
  have hb : ∀ i, i < 262 → byteAt (b.take Config.maxFrame) i = byteAt b i := by
    intro i hi; simp [byteAt, hi]
  have hs : ∀ i, slice (b.take Config.maxFrame) i (5 + (byteAt b 3).toNat) = slice b i (5 + (byteAt b 3).toNat) := by
    intro i; unfold slice; rw [List.drop_take, List.take_take]; congr 1; simp [Config.maxFrame]; omega
  have ha : isAckBytes (b.take Config.maxFrame) = isAckBytes b := by
    simp [isAckBytes, List.take_take, Config.maxFrame, Config.ackLen] at hl ⊢
  unfold decodeFrame
  simp only [Config.maxFrame] at hl
  rw [hb 3 (by omega)]
  simp only [ha, hs, hb _ (show 0 < 262 by omega), hb _ (show 1 < 262 by omega), hb _ (show 2 < 262 by omega),
    hb _ (show 4 < 262 by omega), hb _ (show 5 < 262 by omega), hb _ (show 6 < 262 by omega),
    hb _ (show 5 + (byteAt b 3).toNat < 262 by omega), hb _ (show 6 + (byteAt b 3).toNat < 262 by omega), hlen,
    Config.minFrame, if_neg (show ¬ 262 < 9 by omega), if_neg (show ¬ b.length < 9 by omega),
    if_neg (show ¬ 262 < (byteAt b 3).toNat + 7 by omega), if_neg (show ¬ b.length < (byteAt b 3).toNat + 7 by omega)]

end Sys2Proof.Machine
end

