-- ==== Sys2Proof/Laws/Handshake.lean ====
section
/-! SUPPORT. What each shared operation of the handshake controller can do, said once: the bus primitives, `START`, the two
polls and `TICK`. Later proofs cite these and do not unfold the operations. -/

namespace Sys2Proof.Machine

/-! ### The transport -/

/-- 20_memory.md R75 (a). -/
theorem nextRead_length_le {s : State} {n : Nat} {buf : Bytes} (h : s.nextRead n = .ok buf) : buf.length ≤ n := by
  unfold State.nextRead at h
  split at h <;> (unfold clipAnswer at h; split at h <;> cases h; simp)

theorem nextRead_of_cons {s : State} {a : ReadAnswer} {r : List ReadAnswer} (n : Nat) (h : s.readAns = a :: r) :
    s.nextRead n = clipAnswer n a := by simp [State.nextRead, h]

theorem nextWrite_of_cons {s : State} {a : WriteAnswer} {r : List WriteAnswer} (h : s.writeAns = a :: r) :
    s.nextWrite = a := by simp [State.nextWrite, h]

/-- A read does not take a listed answer to a write. -/
theorem nextWrite_afterRead {s : State} (n : Nat) (h : s.readAns ≠ [] ∨ s.writeAns ≠ []) :
    (s.afterRead n).nextWrite = s.nextWrite := by
  unfold State.nextWrite
  cases hw : s.writeAns <;> simp [hw]
  cases hr : s.readAns <;> simp_all

/-! ### Enabling -/

theorem pollAckDue_iff (s : State) : s.pollAckDue = true ↔ s.txstate = .ackWait ∧ s.elapsed = s.nextpoll := by
  simp [State.pollAckDue]

theorem pollRespDue_iff (s : State) : s.pollRespDue = true ↔ s.txstate = .responseWait ∧ s.elapsed = s.nextpoll := by
  simp [State.pollRespDue]

theorem busy_iff (s : State) : s.busy = true ↔ s.txstate = .ackWait ∨ s.txstate = .responseWait := by
  unfold State.busy; split <;> simp_all

theorem busy_eq_false_iff (s : State) : s.busy = false ↔ s.txstate ≠ .ackWait ∧ s.txstate ≠ .responseWait := by
  rw [← Bool.not_eq_true, busy_iff, not_or]

theorem asleep_iff (s : State) : s.asleep = true ↔ s.devstate = .poweredDown := by simp [State.asleep]

theorem asleep_eq_false_iff (s : State) : s.asleep = false ↔ s.devstate ≠ .poweredDown := by simp [State.asleep]

/-- No two own steps are enabled at once. -/
theorem not_pollRespDue_of_pollAckDue {s : State} (h : s.pollAckDue = true) : s.pollRespDue = false := by
  rw [pollAckDue_iff] at h; simp [State.pollRespDue, h.1]

/-! ### START -/

/-- What a `START` that is not refused does (41_handshake.md R161, R162 gate 2, R163). -/
inductive StartOutcome (op : Byte) (p : Bytes) (ta tr : Option Timer) (s : State) : State → Prop where
  | asleep (hd : s.devstate = .poweredDown) : StartOutcome op p ta tr s s.failAsleep
  | sent (hd : s.devstate ≠ .poweredDown) (hw : s.nextWrite = .ok) :
      StartOutcome op p ta tr s
        (((s.latchCommand op p ta tr).afterWrite (infoFrameBytes Config.tfiH2C op p)).enterAckWait)
  | writeError (info : Nat) (hd : s.devstate ≠ .poweredDown) (hw : s.nextWrite = .ioErr info) :
      StartOutcome op p ta tr s
        (((s.latchCommand op p ta tr).afterWrite (infoFrameBytes Config.tfiH2C op p)).raise (.ioError info))

theorem startTaken_outcome (op : Byte) (p : Bytes) (ta tr : Option Timer) (s : State) :
    StartOutcome op p ta tr s (startTaken op p ta tr s) := by
  have hn : (s.latchCommand op p ta tr).nextWrite = s.nextWrite := rfl
  unfold startTaken
  split
  · exact .asleep ((asleep_iff s).1 ‹_›)
  · have hd : s.devstate ≠ .poweredDown := fun h => ‹¬ _› ((asleep_iff s).2 h)
    unfold sendCommand
    rw [hn]
    split
    · exact .sent hd ‹_›
    · exact .writeError _ hd ‹_›

/-- The gates of R162 that refuse. -/
theorem startRefusal_eq_none_iff (p : Bytes) (s : State) :
    startRefusal p s = none ↔ s.busy = false ∧ (s.devstate = .poweredDown ∨ p.length ≤ 252) := by
  unfold startRefusal payloadTooLong Config.maxPayload
  cases hb : s.busy <;> cases ha : s.asleep <;> simp_all [asleep_iff, asleep_eq_false_iff]

theorem startOp_of_taken {p : Bytes} {s : State} (op : Byte) (ta tr : Option Timer) (h : startRefusal p s = none) :
    startOp op p ta tr s = .next (startTaken op p ta tr s) := by simp [startOp, h]

theorem startOp_eq_next_iff (op : Byte) (p : Bytes) (ta tr : Option Timer) (s t : State) :
    startOp op p ta tr s = .next t ↔ startRefusal p s = none ∧ t = startTaken op p ta tr s := by
  unfold startOp
  cases startRefusal p s <;> simp [eq_comm]

/-! ### POLL_ACK -/

/-- The state after the ACK poll's re-send (41_handshake.md R168). -/
def resent (s : State) : State :=
  { (s.afterRead Config.ackReadLen).afterWrite s.txbuf with retryLeft := false, elapsed := 0, nextpoll := 0 }

/-- The state after the ACK poll's failed re-send (41_handshake.md R168). -/
def resendFailed (info : Nat) (s : State) : State :=
  ({ (s.afterRead Config.ackReadLen).afterWrite s.txbuf with retryLeft := false } : State).raise (.ioError info)

/-- What an ACK poll does (41_handshake.md R164 to R168). -/
inductive AckPollOutcome (s : State) : State → Prop where
  | readError (info : Nat) (h : s.nextRead Config.ackReadLen = .ioErr info) :
      AckPollOutcome s ((s.afterRead Config.ackReadLen).raise (.ioError info))
  | wait (buf : Bytes) (h : s.nextRead Config.ackReadLen = .ok buf)
      (hu : ackUsable s.params.readyMask.val buf = false) (ht : s.elapsed.toNat < s.tAck.toNat) :
      AckPollOutcome s ((s.afterRead Config.ackReadLen).schedulePoll s.tAck)
  | resend (buf : Bytes) (h : s.nextRead Config.ackReadLen = .ok buf)
      (hu : ackUsable s.params.readyMask.val buf = false) (ht : s.tAck.toNat ≤ s.elapsed.toNat)
      (hr : s.retryLeft = true) (hw : (s.afterRead Config.ackReadLen).nextWrite = .ok) : AckPollOutcome s (resent s)
  | resendError (buf : Bytes) (info : Nat) (h : s.nextRead Config.ackReadLen = .ok buf)
      (hu : ackUsable s.params.readyMask.val buf = false) (ht : s.tAck.toNat ≤ s.elapsed.toNat)
      (hr : s.retryLeft = true) (hw : (s.afterRead Config.ackReadLen).nextWrite = .ioErr info) :
      AckPollOutcome s (resendFailed info s)
  | timeout (buf : Bytes) (h : s.nextRead Config.ackReadLen = .ok buf)
      (hu : ackUsable s.params.readyMask.val buf = false) (ht : s.tAck.toNat ≤ s.elapsed.toNat)
      (hr : s.retryLeft = false) : AckPollOutcome s ((s.afterRead Config.ackReadLen).raise .ackTimeout)
  | seen (buf : Bytes) (h : s.nextRead Config.ackReadLen = .ok buf)
      (hu : ackUsable s.params.readyMask.val buf = true) (ha : isAckBytes (slice buf 1 7) = true) :
      AckPollOutcome s (s.afterRead Config.ackReadLen).enterResponseWait
  | mismatch (buf : Bytes) (h : s.nextRead Config.ackReadLen = .ok buf)
      (hu : ackUsable s.params.readyMask.val buf = true) (ha : isAckBytes (slice buf 1 7) = false) :
      AckPollOutcome s ((s.afterRead Config.ackReadLen).raise .ackMismatch)

theorem pollAck_outcome (s : State) : AckPollOutcome s (pollAck s) := by
  unfold pollAck
  cases h : s.nextRead Config.ackReadLen with
  | ioErr info => exact .readError info h
  | ok buf =>
    show AckPollOutcome s (examineAck buf (s.afterRead Config.ackReadLen))
    unfold examineAck notReadyAck ackDeadline
    split_ifs with hu hl hr ha
    · exact .wait buf h (by simpa using hu) hl
    · have hu' : ackUsable s.params.readyMask.val buf = false := by simpa using hu
      have ht : s.tAck.toNat ≤ s.elapsed.toNat := Nat.not_lt.1 hl
      cases hw : (s.afterRead Config.ackReadLen).nextWrite with
      | ok => exact .resend buf h hu' ht hr hw
      | ioErr info => exact .resendError buf info h hu' ht hr hw
    · exact .timeout buf h (by simpa using hu) (Nat.not_lt.1 hl) (by simpa using hr)
    · exact .seen buf h (by simpa using hu) ha
    · exact .mismatch buf h (by simpa using hu) (by simpa using ha)

/-! ### POLL_RESP -/

/-- What a response poll does (41_handshake.md R173 to R176). -/
inductive RespPollOutcome (s : State) : State → Prop where
  | readError (info : Nat) (h : s.nextRead Config.respReadLen = .ioErr info) :
      RespPollOutcome s ((s.afterRead Config.respReadLen).raise (.ioError info))
  | wait (buf : Bytes) (h : s.nextRead Config.respReadLen = .ok buf)
      (hu : respUsable s.params.readyMask.val buf = false) (ht : s.elapsed.toNat < s.tResp.toNat) :
      RespPollOutcome s ((s.afterRead Config.respReadLen).schedulePoll s.tResp)
  | timeout (buf : Bytes) (h : s.nextRead Config.respReadLen = .ok buf)
      (hu : respUsable s.params.readyMask.val buf = false) (ht : s.tResp.toNat ≤ s.elapsed.toNat) :
      RespPollOutcome s ((s.afterRead Config.respReadLen).raise .responseTimeout)
  | unexpectedAck (buf : Bytes) (h : s.nextRead Config.respReadLen = .ok buf)
      (hu : respUsable s.params.readyMask.val buf = true) (hd : decodeFrame (buf.drop 1) = .unexpectedAck) :
      RespPollOutcome s ((s.afterRead Config.respReadLen).raise .unexpectedAck)
  | malformed (buf : Bytes) (sub : ErrSub) (h : s.nextRead Config.respReadLen = .ok buf)
      (hu : respUsable s.params.readyMask.val buf = true) (hd : decodeFrame (buf.drop 1) = .malformed sub) :
      RespPollOutcome s ((s.afterRead Config.respReadLen).raise (.malformedFrame sub))
  | badDirection (buf : Bytes) (tfi op : Byte) (p : Bytes) (h : s.nextRead Config.respReadLen = .ok buf)
      (hu : respUsable s.params.readyMask.val buf = true) (hd : decodeFrame (buf.drop 1) = .ok tfi op p)
      (ht : tfi ≠ Config.tfiC2H) :
      RespPollOutcome s ((s.afterRead Config.respReadLen).raise (.malformedFrame .badDirection))
  | mismatch (buf : Bytes) (op : Byte) (p : Bytes) (h : s.nextRead Config.respReadLen = .ok buf)
      (hu : respUsable s.params.readyMask.val buf = true)
      (hd : decodeFrame (buf.drop 1) = .ok Config.tfiC2H op p) (ho : op ≠ s.cmdOpcode + 1) :
      RespPollOutcome s ((s.afterRead Config.respReadLen).raise .opcodeMismatch)
  | completed (buf : Bytes) (op : Byte) (p : Bytes) (h : s.nextRead Config.respReadLen = .ok buf)
      (hu : respUsable s.params.readyMask.val buf = true)
      (hd : decodeFrame (buf.drop 1) = .ok Config.tfiC2H op p) (ho : op = s.cmdOpcode + 1) :
      RespPollOutcome s (complete op p (s.afterRead Config.respReadLen))

theorem pollResp_outcome (s : State) : RespPollOutcome s (pollResp s) := by
  unfold pollResp
  cases h : s.nextRead Config.respReadLen with
  | ioErr info => exact .readError info h
  | ok buf =>
    show RespPollOutcome s (examineResp buf (s.afterRead Config.respReadLen))
    unfold examineResp notReadyResp
    split_ifs with hu hl
    · exact .wait buf h (by simpa using hu) hl
    · exact .timeout buf h (by simpa using hu) (Nat.not_lt.1 hl)
    · have hu' : respUsable s.params.readyMask.val buf = true := by simpa using hu
      cases hd : decodeFrame (buf.drop 1) with
      | unexpectedAck => exact .unexpectedAck buf h hu' hd
      | malformed sub => exact .malformed buf sub h hu' hd
      | ok tfi op p =>
        unfold checkResponse
        dsimp only
        split_ifs with ht ho
        · exact .badDirection buf tfi op p h hu' hd ht
        · exact .mismatch buf op p h hu' (by rw [hd, not_not.1 ht]) ho
        · exact .completed buf op p h hu' (by rw [hd, not_not.1 ht]) (not_not.1 ho)

/-! ### TICK and the block's own step -/

theorem tickState_of_lt {s : State} (hb : s.busy = true) (h : s.elapsed.toNat < s.nextpoll.toNat) :
    tickState s = { s with elapsed := s.elapsed + 1 } := by simp [tickState, hb, h]

theorem tickState_of_not_busy {s : State} (hb : s.busy = false) : tickState s = s := by simp [tickState, hb]

/-- A tick before the next poll does not wrap. -/
theorem elapsed_succ_toNat {s : State} (h : s.elapsed.toNat < s.nextpoll.toNat) :
    (s.elapsed + 1).toNat = s.elapsed.toNat + 1 := by
  have := s.nextpoll.isLt
  rw [BitVec.toNat_add]
  exact Nat.mod_eq_of_lt (by simpa using by omega)

theorem schedulePoll_nextpoll_toNat (s : State) (limit : Timer) :
    (s.schedulePoll limit).nextpoll.toNat = min (s.elapsed.toNat + s.params.pollInterval.val) limit.toNat := by
  have := limit.isLt
  rw [State.schedulePoll_nextpoll, BitVec.toNat_ofNat]
  exact Nat.mod_eq_of_lt (by omega)

/-- The block's own step, by what is due. -/
inductive OwnOutcome (s : State) : State → Prop where
  | ack (h : s.pollAckDue = true) : OwnOutcome s (pollAck s)
  | resp (h : s.pollRespDue = true) : OwnOutcome s (pollResp s)
  | tick (ha : s.pollAckDue = false) (hr : s.pollRespDue = false) : OwnOutcome s (tickState s)

theorem ownStep_outcome (s : State) : OwnOutcome s (ownStep s) := by
  unfold ownStep
  split
  · exact .ack ‹_›
  · split
    · exact .resp ‹_›
    · exact .tick (by simpa using ‹¬ s.pollAckDue = true›) (by simpa using ‹¬ s.pollRespDue = true›)

/-- A property that every own step of a transaction in flight keeps holds along the run of it. -/
theorem runOwn_keeps {P : State → Prop} (hstep : ∀ s, s.busy = true → P s → P (ownStep s)) :
    ∀ (n : Nat) (s : State), P s → P (runOwn n s)
  | 0, _, h => h
  | n + 1, s, h => by
    unfold runOwn
    split
    · exact runOwn_keeps hstep n _ (hstep s ‹_› h)
    · exact h

theorem runOwn_of_not_busy {s : State} (h : s.busy = false) (n : Nat) : runOwn n s = s := by
  cases n <;> simp [runOwn, h]

end Sys2Proof.Machine
end

