-- ==== Sys2Proof/Laws/PerInstr.lean ====
section
/-! SUPPORT. One statement per constructor: the encoding of an instruction agrees with the match and mask columns of its row
of opcode_table.json, and a row without an encoding (30_encoding.md R118) has none. -/

namespace Sys2Proof.Laws.RowPattern

/-- The match and mask columns of opcode_table.json, byte 0 first; none for a row without an encoding. -/
def pattern : Instr → Option (Bytes × Bytes)
  | .lcs _ => none
  | .dcs _ _ => none
  | .encode _ _ => none
  | .isAck _ => none
  | .decode _ => none
  | .start _ _ _ _ => none
  | .pollAck => none
  | .pollResp => none
  | .tick => none
  | .wake => none
  | .reset => none
  | .getfw => none
  | .setup => none
  | .list _ => none
  | .pwrdown => none
  | .ackFrame _ => some ([0x00, 0x00, 0xFF, 0x00, 0xFF, 0x00], [0xFF, 0xFF, 0xFF, 0xFF, 0xFF, 0xFF])
  | .infoFrame _ _ _ _ => some ([0x00, 0x00, 0xFF, 0x00, 0x00, 0x00, 0x00], [0xFF, 0xFF, 0xFF, 0x00, 0x00, 0x00, 0x00])
  | .cmdGetFirmwareVersion _ _ => some ([0x00, 0x00, 0xFF, 0x00, 0x00, 0xD4, 0x02], [0xFF, 0xFF, 0xFF, 0x00, 0x00, 0xFF, 0xFF])
  | .cmdSAMConfiguration _ _ => some ([0x00, 0x00, 0xFF, 0x00, 0x00, 0xD4, 0x14], [0xFF, 0xFF, 0xFF, 0x00, 0x00, 0xFF, 0xFF])
  | .cmdPowerDown _ _ => some ([0x00, 0x00, 0xFF, 0x00, 0x00, 0xD4, 0x16], [0xFF, 0xFF, 0xFF, 0x00, 0x00, 0xFF, 0xFF])
  | .cmdRFConfiguration _ _ => some ([0x00, 0x00, 0xFF, 0x00, 0x00, 0xD4, 0x32], [0xFF, 0xFF, 0xFF, 0x00, 0x00, 0xFF, 0xFF])
  | .cmdInListPassiveTarget _ _ => some ([0x00, 0x00, 0xFF, 0x00, 0x00, 0xD4, 0x4A], [0xFF, 0xFF, 0xFF, 0x00, 0x00, 0xFF, 0xFF])
  | .rspGetFirmwareVersion _ _ => some ([0x00, 0x00, 0xFF, 0x00, 0x00, 0xD5, 0x03], [0xFF, 0xFF, 0xFF, 0x00, 0x00, 0xFF, 0xFF])
  | .rspSAMConfiguration _ _ => some ([0x00, 0x00, 0xFF, 0x00, 0x00, 0xD5, 0x15], [0xFF, 0xFF, 0xFF, 0x00, 0x00, 0xFF, 0xFF])
  | .rspPowerDown _ _ => some ([0x00, 0x00, 0xFF, 0x00, 0x00, 0xD5, 0x17], [0xFF, 0xFF, 0xFF, 0x00, 0x00, 0xFF, 0xFF])
  | .rspRFConfiguration _ _ => some ([0x00, 0x00, 0xFF, 0x00, 0x00, 0xD5, 0x33], [0xFF, 0xFF, 0xFF, 0x00, 0x00, 0xFF, 0xFF])
  | .rspInListPassiveTarget _ _ => some ([0x00, 0x00, 0xFF, 0x00, 0x00, 0xD5, 0x4B], [0xFF, 0xFF, 0xFF, 0x00, 0x00, 0xFF, 0xFF])

/-- The first bytes, masked, are the match column. -/
def Fits (row : Bytes × Bytes) (b : Bytes) : Prop :=
  List.zipWith (· &&& ·) (b.take row.2.length) row.2 = row.1

/-- The instruction's encoding fits its row, and it has one exactly when the row has. -/
def Statement (i : Instr) : Prop :=
  match pattern i with
  | none => encode i = none
  | some row => ∃ b, encode i = some b ∧ Fits row b

theorem lcs (a : Byte) : Statement (.lcs a) := rfl
theorem dcs (a : Byte) (b : Bytes) : Statement (.dcs a b) := rfl
theorem encode (a : Byte) (b : Bytes) : Statement (.encode a b) := rfl
theorem isAck (a : Bytes) : Statement (.isAck a) := rfl
theorem decode (a : Bytes) : Statement (.decode a) := rfl
theorem start (a : Byte) (b : Bytes) (c d : Option Timer) : Statement (.start a b c d) := rfl
theorem pollAck : Statement (.pollAck) := rfl
theorem pollResp : Statement (.pollResp) := rfl
theorem tick : Statement (.tick) := rfl
theorem wake : Statement (.wake) := rfl
theorem reset : Statement (.reset) := rfl
theorem getfw : Statement (.getfw) := rfl
theorem setup : Statement (.setup) := rfl
theorem list (a : Timer) : Statement (.list a) := rfl
theorem pwrdown : Statement (.pwrdown) := rfl
theorem ackFrame (t : Bytes) : Statement (.ackFrame t) := ⟨_, rfl, rfl⟩
theorem infoFrame (tfi op : Byte) (p t : Bytes) : Statement (.infoFrame tfi op p t) := ⟨_, rfl, by simp [Fits, Machine.infoFrameBytes]⟩
theorem cmdGetFirmwareVersion (p t : Bytes) : Statement (.cmdGetFirmwareVersion p t) := ⟨_, rfl, by simp [Fits, Machine.infoFrameBytes]⟩
theorem cmdSAMConfiguration (p t : Bytes) : Statement (.cmdSAMConfiguration p t) := ⟨_, rfl, by simp [Fits, Machine.infoFrameBytes]⟩
theorem cmdPowerDown (p t : Bytes) : Statement (.cmdPowerDown p t) := ⟨_, rfl, by simp [Fits, Machine.infoFrameBytes]⟩
theorem cmdRFConfiguration (p t : Bytes) : Statement (.cmdRFConfiguration p t) := ⟨_, rfl, by simp [Fits, Machine.infoFrameBytes]⟩
theorem cmdInListPassiveTarget (p t : Bytes) : Statement (.cmdInListPassiveTarget p t) := ⟨_, rfl, by simp [Fits, Machine.infoFrameBytes]⟩
theorem rspGetFirmwareVersion (p t : Bytes) : Statement (.rspGetFirmwareVersion p t) := ⟨_, rfl, by simp [Fits, Machine.infoFrameBytes]⟩
theorem rspSAMConfiguration (p t : Bytes) : Statement (.rspSAMConfiguration p t) := ⟨_, rfl, by simp [Fits, Machine.infoFrameBytes]⟩
theorem rspPowerDown (p t : Bytes) : Statement (.rspPowerDown p t) := ⟨_, rfl, by simp [Fits, Machine.infoFrameBytes]⟩
theorem rspRFConfiguration (p t : Bytes) : Statement (.rspRFConfiguration p t) := ⟨_, rfl, by simp [Fits, Machine.infoFrameBytes]⟩
theorem rspInListPassiveTarget (p t : Bytes) : Statement (.rspInListPassiveTarget p t) := ⟨_, rfl, by simp [Fits, Machine.infoFrameBytes]⟩

end Sys2Proof.Laws.RowPattern
end

