-- ==== Sys2Proof/Laws/Transact.lean ====
section
/-! SUPPORT. What a transaction run to its end does (41_handshake.md R172, R179), and what bytes from the chip lead to. -/

namespace Sys2Proof.Machine

theorem stepBudget_ackWait {s : State} (h : s.txstate = .ackWait) :
    stepBudget s = phaseBudget s s.tAck + (if s.retryLeft then 2 * s.tAck.toNat + 2 else 0) +
      (2 * s.tResp.toNat + 2) := by
  unfold stepBudget; rw [h]

theorem stepBudget_responseWait {s : State} (h : s.txstate = .responseWait) :
    stepBudget s = phaseBudget s s.tResp := by
  unfold stepBudget; rw [h]

/-- The measure behind 41_handshake.md R172: every own step of a transaction in flight lowers it. -/
theorem stepBudget_ownStep_lt {s : State} (h : s.TimersOk) (hb : s.busy = true) : stepBudget (ownStep s) < stepBudget s := by
  have ho := ownStep_outcome s
  generalize ownStep s = u at ho ⊢
  cases ho with
  | ack hd =>
    obtain ⟨ht, he⟩ := (pollAckDue_iff s).1 hd
    have hl := h.1 ht
    have ho := pollAck_outcome s
    generalize pollAck s = u at ho ⊢
    have hs : stepBudget s = 2 * (s.tAck.toNat - s.elapsed.toNat) + 1 +
        (if s.retryLeft then 2 * s.tAck.toNat + 2 else 0) + (2 * s.tResp.toNat + 2) := by
      simp [stepBudget, ht, phaseBudget, he]
    cases ho with
    | wait buf hn hu hlt =>
      have hx := schedulePoll_nextpoll_toNat (s.afterRead Config.ackReadLen) s.tAck
      generalize hu : ((s.afterRead Config.ackReadLen).schedulePoll s.tAck) = u at hx ⊢
      have e1 : u.txstate = s.txstate := by rw [← hu]; rfl
      have e2 : u.elapsed = s.elapsed := by rw [← hu]; rfl
      have e3 : u.tAck = s.tAck := by rw [← hu]; rfl
      have e4 : u.tResp = s.tResp := by rw [← hu]; rfl
      have e5 : u.retryLeft = s.retryLeft := by rw [← hu]; rfl
      have hne : u.elapsed ≠ u.nextpoll := by
        intro hc; rw [← hc, e2] at hx; simp at hx; have := s.params.pollInterval.2; omega
      rw [hs]
      simp only [stepBudget, e1, ht, phaseBudget, e2, e3, e4, e5]
      rw [e2] at hne
      rw [if_neg hne]; omega
    | resend => rw [hs]; simp [stepBudget, resent, phaseBudget, *]; omega
    | seen => rw [hs]; simp [stepBudget, phaseBudget]; omega
    | _ => rw [hs]; simp [stepBudget, resendFailed]
  | resp hd =>
    obtain ⟨ht, he⟩ := (pollRespDue_iff s).1 hd
    have hl := h.2 ht
    have ho := pollResp_outcome s
    generalize pollResp s = u at ho ⊢
    have hs : stepBudget s = 2 * (s.tResp.toNat - s.elapsed.toNat) + 1 := by
      simp [stepBudget, ht, phaseBudget, he]
    cases ho with
    | wait buf hn hu hlt =>
      have hx := schedulePoll_nextpoll_toNat (s.afterRead Config.respReadLen) s.tResp
      generalize hu : ((s.afterRead Config.respReadLen).schedulePoll s.tResp) = u at hx ⊢
      have e1 : u.txstate = s.txstate := by rw [← hu]; rfl
      have e2 : u.elapsed = s.elapsed := by rw [← hu]; rfl
      have e4 : u.tResp = s.tResp := by rw [← hu]; rfl
      have hne : u.elapsed ≠ u.nextpoll := by
        intro hc; rw [← hc, e2] at hx; simp at hx; have := s.params.pollInterval.2; omega
      rw [hs]
      simp only [stepBudget, e1, ht, phaseBudget, e2, e4]
      rw [e2] at hne
      rw [if_neg hne]; omega
    | _ => rw [hs]; simp [stepBudget, complete]
  | tick ha hr =>
    have key : ∀ t : Timer, s.elapsed.toNat < s.nextpoll.toNat → s.nextpoll.toNat ≤ t.toNat →
        phaseBudget (tickState s) t < phaseBudget s t := by
      intro t h1 h2
      rw [tickState_of_lt hb h1]
      unfold phaseBudget
      dsimp only
      rw [elapsed_succ_toNat h1]
      split_ifs <;> omega
    rcases (busy_iff s).1 hb with ht | ht
    · have hl := h.1 ht
      have hlt : s.elapsed.toNat < s.nextpoll.toNat := by
        refine lt_of_le_of_ne hl.1 fun hc => ?_
        have := (pollAckDue_iff s).2 ⟨ht, BitVec.eq_of_toNat_eq hc⟩
        rw [this] at ha; cases ha
      have k := key s.tAck hlt hl.2
      rw [tickState_of_lt hb hlt] at k ⊢
      rw [stepBudget_ackWait ht, stepBudget_ackWait (s := { s with elapsed := s.elapsed + 1 }) ht]
      exact Nat.add_lt_add_right (Nat.add_lt_add_right k _) _
    · have hl := h.2 ht
      have hlt : s.elapsed.toNat < s.nextpoll.toNat := by
        refine lt_of_le_of_ne hl.1 fun hc => ?_
        have := (pollRespDue_iff s).2 ⟨ht, BitVec.eq_of_toNat_eq hc⟩
        rw [this] at hr; cases hr
      have k := key s.tResp hlt hl.2
      rw [tickState_of_lt hb hlt] at k ⊢
      rw [stepBudget_responseWait ht, stepBudget_responseWait (s := { s with elapsed := s.elapsed + 1 }) ht]
      exact k


/-- No own step goes back to `Idle` (41_handshake.md R160). -/
theorem ownStep_not_idle {s : State} (h : s.txstate ≠ .idle) : (ownStep s).txstate ≠ .idle := by
  have ho := ownStep_outcome s
  generalize ownStep s = u at ho ⊢
  cases ho with
  | ack hd => 
    have ho := pollAck_outcome s
    generalize pollAck s = u at ho ⊢
    cases ho <;> simp [resent, resendFailed, h]
  | resp hd =>
    have ho := pollResp_outcome s
    generalize pollResp s = u at ho ⊢
    cases ho <;> simp [complete, h]
  | tick => unfold tickState; split <;> exact h


/-- The timer invariant holds when a transaction begins (41_handshake.md R172). -/
theorem timersOk_startTaken {s op p ta tr} (hr : startRefusal p s = none) : (startTaken op p ta tr s).TimersOk := by
  have hb := ((startRefusal_eq_none_iff p s).1 hr).1
  have ho := startTaken_outcome op p ta tr s
  generalize startTaken op p ta tr s = u at ho ⊢
  cases ho <;> simp [State.TimersOk, State.failAsleep]

/-- Every own step keeps the timer invariant (41_handshake.md R172). -/
theorem timersOk_ownStep {s : State} (h : s.TimersOk) : (ownStep s).TimersOk := by
  have ho := ownStep_outcome s
  generalize ownStep s = u at ho ⊢
  cases ho with
  | ack hd =>
    obtain ⟨ht, he⟩ := (pollAckDue_iff s).1 hd
    have ho := pollAck_outcome s
    generalize pollAck s = u at ho ⊢
    cases ho with
    | wait buf hn hu hl =>
      have hx := schedulePoll_nextpoll_toNat (s.afterRead Config.ackReadLen) s.tAck
      unfold State.TimersOk
      rw [hx]
      simp [ht]; omega
    | _ => simp [State.TimersOk, resent, resendFailed, ht]
  | resp hd =>
    obtain ⟨ht, he⟩ := (pollRespDue_iff s).1 hd
    have ho := pollResp_outcome s
    generalize pollResp s = u at ho ⊢
    cases ho with
    | wait buf hn hu hl =>
      have hx := schedulePoll_nextpoll_toNat (s.afterRead Config.respReadLen) s.tResp
      unfold State.TimersOk
      rw [hx]
      simp [ht]; omega
    | _ => simp [State.TimersOk, complete]
  | tick => 
    unfold tickState
    split
    · rename_i hh
      simp at hh
      have e := elapsed_succ_toNat hh.2
      have := h
      unfold State.TimersOk at this ⊢
      dsimp only; rw [e]
      refine ⟨fun hx => ?_, fun hx => ?_⟩
      · have := this.1 hx; omega
      · have := this.2 hx; omega
    · exact h

/-- As many own steps as the budget end the transaction (41_handshake.md R172, R179). -/
theorem runOwn_ends : ∀ (n : Nat) (s : State), s.TimersOk → stepBudget s ≤ n → (runOwn n s).busy = false
  | 0, s, h, hn => by
    by_contra hb
    have := stepBudget_ownStep_lt h (by simpa [runOwn] using hb); omega
  | n + 1, s, h, hn => by
    unfold runOwn
    split
    · have := stepBudget_ownStep_lt h ‹_›
      exact runOwn_ends n _ (timersOk_ownStep h) (by omega)
    · rename_i h; simpa using h

/-- A transaction that no gate refuses ends in a terminal state (41_handshake.md R179). -/
theorem transact_terminal {s op p ta tr} (hr : startRefusal p s = none) :
   (transact op p ta tr s).txstate = .done ∨ (transact op p ta tr s).txstate = .failed := by
  have h1 : (transact op p ta tr s).busy = false := runOwn_ends _ _ (timersOk_startTaken hr) le_rfl
  have h0 : (startTaken op p ta tr s).txstate ≠ .idle := by
    have ho := startTaken_outcome op p ta tr s
    generalize startTaken op p ta tr s = u at ho ⊢
    cases ho <;> simp [State.failAsleep]
  have h2 : (transact op p ta tr s).txstate ≠ .idle :=
    runOwn_keeps (P := fun s => s.txstate ≠ .idle) (fun s _ h => ownStep_not_idle h) _ _ h0
  rw [busy_eq_false_iff] at h1
  cases hh : (transact op p ta tr s).txstate <;> simp_all

/-- What bytes from the chip lead to (log entries 6 and 7): the poll that is due reads them, else they are held. -/
inductive ReceiveOutcome (b : Bytes) (s : State) : State → Prop where
  | ack (h : s.pollAckDue = true) : ReceiveOutcome b s (pollAck (s.present b))
  | resp (h : s.pollRespDue = true) : ReceiveOutcome b s (pollResp (s.present b))
  | held (ha : s.pollAckDue = false) (hr : s.pollRespDue = false) : ReceiveOutcome b s (s.present b)

theorem receive_outcome (b : Bytes) (s : State) : ReceiveOutcome b s (receive b s) := by
  unfold receive
  split_ifs with h1 h2
  · exact .ack h1
  · exact .resp h2
  · exact .held (by simpa using h1) (by simpa using h2)

/-- A ready status byte: whatever the free bits, the masked bit is set (20_memory.md R67). -/
theorem or_and_self_ne_zero (x m : Byte) (h : m ≠ 0) : (x ||| m) &&& m ≠ 0 := by
  intro hc
  have : (x ||| m) &&& m = m := by
    ext i hi
    simp only [BitVec.getElem_and, BitVec.getElem_or, Bool.and_eq_right_iff_imp]
    intro hm; simp [hm]
  exact h (this.symm.trans hc)

end Sys2Proof.Machine
end

