-- ==== Sys2Proof/Tests/Slice0.lean ====
section
/-! SUPPORT. The model's own tests. The expected values are those of 95_test_vectors.md (the name of the vector stands beside
each test) or worked out by hand from the rules named; the parameters are the ones that file suggests. Then, for every
statement that has hypotheses, a concrete state and operands that meet them. -/

namespace Sys2Proof.Tests

open Sys2Proof Sys2Proof.Machine

/-! ### Helpers -/

/-- The parameters of 95_test_vectors.md. -/
def params : Params where
  readyMask := ⟨0x01, by decide⟩
  pollInterval := ⟨10, by decide⟩
  tRespDefault := 50
  i2cAddr := 0x24
  samPayload := ⟨[0x01, 0x00, 0x00], by decide⟩
  rfPayload := ⟨[0x05, 0xFF, 0x01, 0xFF], by decide⟩
  listPayload := ⟨[0x01, 0x00], by decide⟩
  pdMask := 0x20

/-- After reset, with the environment's answers. -/
def fresh (writes : List WriteAnswer) (reads : List ReadAnswer) : State :=
  { State.reset with params := params, tResp := 50, writeAns := writes, readAns := reads }

/-- Waiting for the ACK of `START 02 [] tack=20 tresp=15`. -/
def ackWait (e n : Timer) (retry : Bool) (writes : List WriteAnswer) (reads : List ReadAnswer) : State :=
  { fresh writes reads with
    txstate := .ackWait, devstate := .awaitingAck, elapsed := e, nextpoll := n, retryLeft := retry
    cmdOpcode := 0x02, txbuf := [0x00, 0x00, 0xFF, 0x02, 0xFE, 0xD4, 0x02, 0x2A, 0x00], tAck := 20, tResp := 15 }

/-- Waiting for the response to the command with the given opcode. -/
def respWait (op : Byte) (e n : Timer) (reads : List ReadAnswer) : State :=
  { ackWait e n true [] reads with
    txstate := .responseWait, devstate := .awaitingResponse, cmdOpcode := op, txbuf := infoFrameBytes 0xD4 op [] }

/-- After a completed power-down. -/
def asleep : State :=
  { respWait 0x16 0 0 [] with txstate := .done, devstate := .poweredDown, respOpcode := 0x17, respPayload := [0x00] }

/-- The next state, where there is one. -/
def next (o : Host.Outcome State Fault Refusal) : Option State :=
  match o with
  | .next t => some t
  | .fault _ => none
  | .refused _ => none

/-- The refusal, where there is one. -/
def refusal (o : Host.Outcome State Fault Refusal) : Option Refusal :=
  match o with
  | .next _ => none
  | .fault _ => none
  | .refused r => some r

/-- The fault, where there is one. -/
def fault (o : Host.Outcome State Fault Refusal) : Option Fault :=
  match o with
  | .next _ => none
  | .fault f => some f
  | .refused _ => none

/-- What the host sees of a transaction that is over. -/
structure Ended where
  tx : TxState
  dev : DevState
  err : ErrKind
  sub : ErrSub
  op : Byte
  payload : Bytes
  deriving DecidableEq, Repr

def outcome (t : State) : Ended := ⟨t.txstate, t.devstate, t.err, t.errSub, t.respOpcode, t.respPayload⟩

/-- The two state registers, the timer and the retry. -/
structure Phase where
  tx : TxState
  dev : DevState
  elapsed : Nat
  nextpoll : Nat
  retry : Bool
  deriving DecidableEq, Repr

def phase (t : State) : Phase := ⟨t.txstate, t.devstate, t.elapsed.toNat, t.nextpoll.toNat, t.retryLeft⟩

/-- The bytes written to the bus, in order. -/
def writes (t : State) : List Bytes :=
  t.trace.filterMap fun e => match e with
    | .write _ b _ => some b
    | .read _ _ _ => none

def ack : Bytes := [0x00, 0x00, 0xFF, 0x00, 0xFF, 0x00]
def fwFrame : Bytes := [0x00, 0x00, 0xFF, 0x06, 0xFA, 0xD5, 0x03, 0x20, 0x01, 0x06, 0x07, 0xFA, 0x00]
def ackReady : ReadAnswer := .ok (0x01 :: ack)
def notReady : ReadAnswer := .ok [0x00, 0x00, 0x00, 0x00, 0x00, 0x00, 0x00]

/-! ### WellFormed refuses -/

/-- A payload of 254 bytes: LEN would be 256 (30_encoding.md R100). -/
theorem test_wf_payload_too_long :
    (Instr.cmdSAMConfiguration (List.replicate 254 0xAA) []).wf = false ∧
    (Instr.rspPowerDown (List.replicate 254 0xAA) []).wf = false ∧
    (Instr.infoFrame 0xD4 0x40 (List.replicate 254 0xAA) []).wf = false := by decide +kernel

/-- A TFI that the wire format does not have (R95). -/
theorem test_wf_bad_tfi : (Instr.infoFrame 0x12 0x40 [] []).wf = false := by decide

/-- A header that belongs to one of the ten named frames (R103, R104). -/
theorem test_wf_named_header :
    (Instr.infoFrame 0xD4 0x4A [] []).wf = false ∧ (Instr.infoFrame 0xD5 0x17 [] []).wf = false := by decide

/-- The longest payload of a frame is well formed, and the same opcodes in the other direction are the generic frame. -/
theorem test_wf_accepts :
    (Instr.infoFrame 0xD4 0x40 (List.replicate 253 0xAA) []).wf = true ∧
    (Instr.infoFrame 0xD4 0x17 [] []).wf = true ∧ (Instr.infoFrame 0xD5 0x4A [] []).wf = true := by decide +kernel

/-! ### Decoding words written out from the spec -/

theorem test_decode_ack_frame : decode [0x00, 0x00, 0xFF, 0x00, 0xFF, 0x00, 0x55] = .ok (.ackFrame [0x55]) := by rfl

/-- V-E6, V-D21. -/
theorem test_decode_info_frame :
    decode [0x00, 0x00, 0xFF, 0x02, 0xFE, 0xD4, 0x00, 0x2C, 0x00] = .ok (.infoFrame 0xD4 0x00 [] []) ∧
    decode [0x00, 0x00, 0xFF, 0x03, 0xFD, 0xD5, 0x00, 0xAB, 0x80, 0x00] = .ok (.infoFrame 0xD5 0x00 [0xAB] []) :=
  ⟨rfl, rfl⟩

/-- V-E1 to V-E5. -/
theorem test_decode_commands :
    decode [0x00, 0x00, 0xFF, 0x02, 0xFE, 0xD4, 0x02, 0x2A, 0x00] = .ok (.cmdGetFirmwareVersion [] []) ∧
    decode [0x00, 0x00, 0xFF, 0x05, 0xFB, 0xD4, 0x14, 0x01, 0x00, 0x00, 0x17, 0x00] =
      .ok (.cmdSAMConfiguration [0x01, 0x00, 0x00] []) ∧
    decode [0x00, 0x00, 0xFF, 0x06, 0xFA, 0xD4, 0x32, 0x05, 0xFF, 0x01, 0xFF, 0xF6, 0x00] =
      .ok (.cmdRFConfiguration [0x05, 0xFF, 0x01, 0xFF] []) ∧
    decode [0x00, 0x00, 0xFF, 0x04, 0xFC, 0xD4, 0x4A, 0x01, 0x00, 0xE1, 0x00] =
      .ok (.cmdInListPassiveTarget [0x01, 0x00] []) ∧
    decode [0x00, 0x00, 0xFF, 0x03, 0xFD, 0xD4, 0x16, 0x20, 0xF6, 0x00] = .ok (.cmdPowerDown [0x20] []) :=
  ⟨rfl, rfl, rfl, rfl, rfl⟩

/-- V-Q1, V-D19, V-Q15, V-Q11, and the example of 43_controller_sequences.md R228. -/
theorem test_decode_responses :
    decode (fwFrame ++ [0xAA, 0x55]) = .ok (.rspGetFirmwareVersion [0x20, 0x01, 0x06, 0x07] [0xAA, 0x55]) ∧
    decode [0x00, 0x00, 0xFF, 0x02, 0xFE, 0xD5, 0x15, 0x16, 0x00] = .ok (.rspSAMConfiguration [] []) ∧
    decode [0x00, 0x00, 0xFF, 0x02, 0xFE, 0xD5, 0x33, 0xF8, 0x00] = .ok (.rspRFConfiguration [] []) ∧
    decode [0x00, 0x00, 0xFF, 0x03, 0xFD, 0xD5, 0x17, 0x00, 0x14, 0x00] = .ok (.rspPowerDown [0x00] []) ∧
    decode [0x00, 0x00, 0xFF, 0x03, 0xFD, 0xD5, 0x4B, 0x00, 0xE0, 0x00] = .ok (.rspInListPassiveTarget [0x00] []) :=
  ⟨rfl, rfl, rfl, rfl, rfl⟩

/-- The extended-frame header (V-D17) is no frame. -/
theorem test_decode_rejects_by_name :
    decode [0x00, 0x00, 0xFF, 0xFF, 0xFF, 0x01, 0x02, 0xFD, 0xD5, 0x03, 0x00, 0x00, 0x00] = .error .badLcs := by rfl

/-- V-E1 as a number, byte 0 in bits 7 to 0; the bytes up to the longest frame are zeros. -/
theorem test_decode_table_word :
    decodeTableWord 72 0x002A02D4FE02FF0000 = some (.cmdGetFirmwareVersion [] (List.replicate 253 0)) := by decide +kernel

/-! ### The codec -/

/-- V-L1, V-L5, V-L6. -/
theorem test_lcs :
    (next (exec (.lcs 0x00) asleep)).map (·.ret) = some (.byte 0x00) ∧
    (next (exec (.lcs 0x80) asleep)).map (·.ret) = some (.byte 0x80) ∧
    (next (exec (.lcs 0xFE) asleep)).map (·.ret) = some (.byte 0x02) := by decide

/-- V-C2, V-C3, V-C4. -/
theorem test_dcs :
    (next (exec (.dcs 0xD5 [0x03, 0x20, 0x01, 0x06, 0x07]) asleep)).map (·.ret) = some (.byte 0xFA) ∧
    (next (exec (.dcs 0xD4 [0x2C]) asleep)).map (·.ret) = some (.byte 0x00) ∧
    (next (exec (.dcs 0xD4 [0xFF, 0xFF, 0xFF, 0xFF]) asleep)).map (·.ret) = some (.byte 0x30) := by decide

/-- V-E6c. -/
theorem test_encode : (next (exec (.encode 0xFF [0xFF, 0xFF, 0xFF]) asleep)).map (·.ret) =
    some (.frame [0x00, 0x00, 0xFF, 0x05, 0xFB, 0xD4, 0xFF, 0xFF, 0xFF, 0xFF, 0x30, 0x00]) := by decide

/-- V-E8. -/
theorem test_encode_refuses :
    refusal (exec (.encode 0x40 (List.replicate 253 0xAA)) asleep) = some .encodeOverflow := by decide +kernel

/-- V-A2, V-A3, V-A4. -/
theorem test_isAck :
    (next (exec (.isAck (ack ++ [0x00, 0x00, 0x00])) asleep)).map (·.ret) = some (.flag true) ∧
    (next (exec (.isAck [0x00, 0x00, 0xFF, 0x00, 0xFF]) asleep)).map (·.ret) = some (.flag false) ∧
    (next (exec (.isAck [0x00, 0x00, 0xFF, 0x00, 0xFE, 0x00]) asleep)).map (·.ret) = some (.flag false) := by decide

/-- V-D15. -/
theorem test_decode : (next (exec (.decode (fwFrame ++ [0xAA, 0x55])) asleep)).map (·.ret) =
    some (.decoded (.ok 0xD5 0x03 [0x20, 0x01, 0x06, 0x07])) := by decide

/-- One buffer for each of the eleven steps of 40_framecodec.md R137, each failing that step only: V-D14, V-D9, V-D3, V-D4b,
V-D5b, V-D11, V-D8, V-D10, V-D6b, V-D7, V-D1. They also meet the hypotheses of the eleven clauses of
`DecodeReportsFirstStepThatFires`. -/
theorem test_decode_steps :
    decodeFrame (ack ++ [0x00, 0x00, 0x00]) = .unexpectedAck ∧
    decodeFrame [0x00, 0x00, 0xFF, 0x06, 0xFA, 0xD5, 0x03, 0x20] = .malformed .tooShort ∧
    decodeFrame [0x01, 0x00, 0xFF, 0x06, 0xFA, 0xD5, 0x03, 0x20, 0x01, 0x06, 0x07, 0xFA, 0x00] = .malformed .badPreamble ∧
    decodeFrame [0x00, 0x01, 0xFF, 0x06, 0xFA, 0xD5, 0x03, 0x20, 0x01, 0x06, 0x07, 0xFA, 0x00] = .malformed .badStartCode ∧
    decodeFrame [0x00, 0x00, 0xFF, 0x07, 0xFA, 0xD5, 0x03, 0x20, 0x01, 0x06, 0x07, 0xFA, 0x00] = .malformed .badLcs ∧
    decodeFrame [0x00, 0x00, 0xFF, 0x01, 0xFF, 0xD5, 0x2B, 0x00, 0x00, 0x00] = .malformed .tooShort ∧
    decodeFrame [0x00, 0x00, 0xFF, 0x06, 0xFA, 0xD5, 0x03, 0x20, 0x01, 0x06, 0x07] = .malformed .truncated ∧
    decodeFrame [0x00, 0x00, 0xFF, 0x03, 0xFD, 0x7F, 0x01, 0x02, 0x7E, 0x00] = .malformed .badTfi ∧
    decodeFrame [0x00, 0x00, 0xFF, 0x06, 0xFA, 0xD5, 0x03, 0x20, 0x01, 0x06, 0x07, 0xFB, 0x00] = .malformed .badDcs ∧
    decodeFrame [0x00, 0x00, 0xFF, 0x06, 0xFA, 0xD5, 0x03, 0x20, 0x01, 0x06, 0x07, 0xFA, 0x01] = .malformed .badPostamble ∧
    decodeFrame fwFrame = .ok 0xD5 0x03 [0x20, 0x01, 0x06, 0x07] := by decide

/-! ### START -/

/-- V-S2: the timeouts given are taken, the frame is written. -/
theorem test_start :
    (next (exec (.start 0x4A [0x01, 0x00] (some 20) (some 1000)) (fresh [.ok] []))).map
        (fun t => (phase t, t.tAck.toNat, t.tResp.toNat, writes t)) =
      some (⟨.ackWait, .awaitingAck, 0, 0, true⟩, 20, 1000,
        [[0x00, 0x00, 0xFF, 0x04, 0xFC, 0xD4, 0x4A, 0x01, 0x00, 0xE1, 0x00]]) := by decide

/-- V-S8, V-S4, V-S7: the order of the gates. -/
theorem test_start_gates :
    (next (exec (.start 0x40 (List.replicate 253 0xAA) none none) asleep)).map
        (fun t => (outcome t, writes t, t.cmdOpcode.toNat)) =
      some (⟨.failed, .poweredDown, .deviceAsleep, .none, 0x00, []⟩, [], 0x16) ∧
    refusal (exec (.start 0x14 [0x01, 0x00, 0x00] none none) (ackWait 0 0 true [] [])) = some .busy ∧
    refusal (exec (.start 0x40 (List.replicate 253 0xAA) none none) (fresh [] [])) = some .encodeOverflow := by
  decide +kernel

/-! ### POLL_ACK -/

/-- V-K13, V-K12, V-K5: the masked bit alone counts, and a short read is not ready. -/
theorem test_pollAck :
    (next (exec .pollAck (ackWait 0 0 true [] [.ok (0x03 :: ack)]))).map phase =
      some ⟨.responseWait, .awaitingResponse, 0, 0, true⟩ ∧
    (next (exec .pollAck (ackWait 0 0 true [] [.ok (0x80 :: ack)]))).map phase =
      some ⟨.ackWait, .awaitingAck, 0, 10, true⟩ ∧
    (next (exec .pollAck (ackWait 10 10 true [] [.ok [0x01, 0x00, 0x00, 0xFF, 0x00, 0xFF]]))).map phase =
      some ⟨.ackWait, .awaitingAck, 10, 20, true⟩ := by decide

/-- V-K9, V-K8, V-K3, V-K7 at the deadline: retry, failed retry, mismatch, failed read. -/
theorem test_pollAck_deadline :
    (next (exec .pollAck (ackWait 20 20 true [.ok] [notReady]))).map (fun t => (phase t, writes t)) =
      some (⟨.ackWait, .awaitingAck, 0, 0, false⟩, [[0x00, 0x00, 0xFF, 0x02, 0xFE, 0xD4, 0x02, 0x2A, 0x00]]) ∧
    (next (exec .pollAck (ackWait 20 20 true [.ioErr 7] [notReady]))).map (fun t => (outcome t, t.ioerrInfo)) =
      some (⟨.failed, .error, .ioError, .none, 0x00, []⟩, 7) ∧
    (next (exec .pollAck (ackWait 20 20 false [] [notReady]))).map outcome =
      some ⟨.failed, .error, .ackTimeout, .none, 0x00, []⟩ ∧
    (next (exec .pollAck (ackWait 20 20 true [] [.ok [0x01, 0x00, 0x00, 0xFF, 0x00, 0xFE, 0x00]]))).map outcome =
      some ⟨.failed, .error, .ackMismatch, .none, 0x00, []⟩ := by decide

/-! ### POLL_RESP -/

/-- V-Q12, V-Q11. -/
theorem test_pollResp :
    (next (exec .pollResp (respWait 0xFF 0 0 [.ok [0x01, 0x00, 0x00, 0xFF, 0x03, 0xFD, 0xD5, 0x00, 0xAB, 0x80, 0x00]]))).map
        outcome = some ⟨.done, .idle, .none, .none, 0x00, [0xAB]⟩ ∧
    (next (exec .pollResp (respWait 0x16 0 0 [.ok [0x01, 0x00, 0x00, 0xFF, 0x03, 0xFD, 0xD5, 0x17, 0x00, 0x14, 0x00]]))).map
        outcome = some ⟨.done, .poweredDown, .none, .none, 0x17, [0x00]⟩ := by decide

/-- V-Q3, V-Q5, V-Q6, V-Q7, V-Q10. -/
theorem test_pollResp_failures :
    (next (exec .pollResp (respWait 0x02 0 0 [.ok (0x01 :: ack ++ [0x00, 0x00, 0x00])]))).map outcome =
      some ⟨.failed, .error, .unexpectedAck, .none, 0x00, []⟩ ∧
    (next (exec .pollResp (respWait 0x02 0 0
        [.ok [0x01, 0x00, 0x00, 0xFF, 0x06, 0xFA, 0xD4, 0x03, 0x20, 0x01, 0x06, 0x07, 0xFB, 0x00]]))).map outcome =
      some ⟨.failed, .error, .malformedFrame, .badDirection, 0x00, []⟩ ∧
    (next (exec .pollResp (respWait 0x02 0 0 [.ok [0x01, 0x00, 0x00, 0xFF, 0x02, 0xFE, 0xD5, 0x15, 0x16, 0x00]]))).map outcome =
      some ⟨.failed, .error, .opcodeMismatch, .none, 0x00, []⟩ ∧
    (next (exec .pollResp (respWait 0x02 0 0
        [.ok [0x01, 0x00, 0x00, 0xFF, 0x06, 0xFA, 0xD5, 0x03, 0x20, 0x01, 0x06, 0x07]]))).map outcome =
      some ⟨.failed, .error, .malformedFrame, .truncated, 0x00, []⟩ ∧
    (next (exec .pollResp (respWait 0x02 15 15 [notReady]))).map outcome =
      some ⟨.failed, .error, .responseTimeout, .none, 0x00, []⟩ := by decide

/-! ### TICK, WAKE, RESET -/

/-- V-T3, V-T1, V-T4. -/
theorem test_tick :
    (next (exec .tick (ackWait 9 10 true [] []))).map phase = some ⟨.ackWait, .awaitingAck, 10, 10, true⟩ ∧
    fault (exec .tick (ackWait 0 0 true [] [])) = some .stepNotEnabled ∧
    next (exec .tick asleep) = some asleep := ⟨by decide, by decide, rfl⟩

/-- V-T2: the polls are not enabled there. -/
theorem test_poll_not_enabled :
    fault (exec .pollAck (ackWait 3 10 true [] [])) = some .stepNotEnabled ∧
    fault (exec .pollResp (ackWait 0 0 true [] [])) = some .stepNotEnabled := by decide

/-- V-W1, V-W3. -/
theorem test_wake :
    (next (exec .wake asleep)).map outcome = some ⟨.done, .idle, .none, .none, 0x17, [0x00]⟩ ∧
    next (exec .wake (ackWait 3 10 true [] [])) = some (ackWait 3 10 true [] []) := ⟨by decide, rfl⟩

/-- V-X1, V-X2. -/
theorem test_reset :
    next (exec .reset (ackWait 7 10 true [] [])) = some (fresh [] []) ∧
    (next (exec .reset asleep)).map outcome = some ⟨.idle, .idle, .none, .none, 0x00, []⟩ := ⟨rfl, by decide⟩

/-! ### The macro-sequences -/

/-- S5 and V-G2. -/
theorem test_getfw :
    (next (exec .getfw (fresh [.ok] [ackReady, .ok (0x01 :: fwFrame)]))).map (·.ret) =
      some (.firmware 0x20 0x01 0x06 0x07) ∧
    (next (exec .getfw (fresh [.ok] [ackReady,
        .ok [0x01, 0x00, 0x00, 0xFF, 0x05, 0xFB, 0xD5, 0x03, 0x01, 0x06, 0x07, 0x1A, 0x00]]))).map
        (fun t => (t.ret, t.devstate)) = some (.failed .protocolError, .idle) := by decide +kernel

/-- P4's `SETUP`, and V-G9. -/
theorem test_setup :
    (next (exec .setup (fresh [.ok, .ok] [ackReady, .ok [0x01, 0x00, 0x00, 0xFF, 0x02, 0xFE, 0xD5, 0x15, 0x16, 0x00],
        ackReady, .ok [0x01, 0x00, 0x00, 0xFF, 0x02, 0xFE, 0xD5, 0x33, 0xF8, 0x00]]))).map (fun t => (t.ret, writes t)) =
      some (.success, [[0x00, 0x00, 0xFF, 0x05, 0xFB, 0xD4, 0x14, 0x01, 0x00, 0x00, 0x17, 0x00],
        [0x00, 0x00, 0xFF, 0x06, 0xFA, 0xD4, 0x32, 0x05, 0xFF, 0x01, 0xFF, 0xF6, 0x00]]) ∧
    (next (exec .setup (fresh [.ok, .ioErr 7] [ackReady,
        .ok [0x01, 0x00, 0x00, 0xFF, 0x02, 0xFE, 0xD5, 0x15, 0x16, 0x00]]))).map (·.ret) =
      some (.setupFailed .rfConfiguration) := by decide +kernel

/-- V-G4 and V-G6; the kind of the target is left free. -/
theorem test_list :
    (next (exec (.list 1000) (fresh [.ok] [ackReady,
        .ok [0x01, 0x00, 0x00, 0xFF, 0x0B, 0xF5, 0xD5, 0x4B, 0x01, 0x04, 0x04, 0xA1, 0xB2, 0xC3, 0x00, 0x04, 0x08, 0xB5,
          0x00]]))).map (fun t => (t.ret, t.tResp.toNat)) =
      some (.targets [⟨Config.freeTagKind 0, [0x04, 0xA1, 0xB2, 0xC3], (0x00, 0x04), 0x08⟩], 1000) ∧
    parseTargets 0 [0x01, 0x04, 0x04, 0xA1, 0xB2] = none := ⟨rfl, by decide⟩

/-- P3's `PWRDOWN`, and `PWRDOWN` while asleep. -/
theorem test_pwrdown :
    (next (exec .pwrdown (fresh [.ok] [ackReady,
        .ok [0x01, 0x00, 0x00, 0xFF, 0x03, 0xFD, 0xD5, 0x17, 0x00, 0x14, 0x00]]))).map (fun t => (t.ret, outcome t)) =
      some (.success, ⟨.done, .poweredDown, .none, .none, 0x17, [0x00]⟩) ∧
    (next (exec .pwrdown asleep)).map (fun t => (t.ret, writes t)) = some (.failed .deviceAsleep, []) := by decide +kernel

/-! ### The frames as events (log entry 6) -/

/-- The five command frames and the generic one run as `START`. -/
theorem test_command_frames :
    (next (exec (.cmdGetFirmwareVersion [] []) (fresh [.ok] []))).map writes =
      some [[0x00, 0x00, 0xFF, 0x02, 0xFE, 0xD4, 0x02, 0x2A, 0x00]] ∧
    (next (exec (.cmdSAMConfiguration [0x01, 0x00, 0x00] []) (fresh [.ok] []))).map writes =
      some [[0x00, 0x00, 0xFF, 0x05, 0xFB, 0xD4, 0x14, 0x01, 0x00, 0x00, 0x17, 0x00]] ∧
    (next (exec (.cmdPowerDown [0x20] []) (fresh [.ok] []))).map writes =
      some [[0x00, 0x00, 0xFF, 0x03, 0xFD, 0xD4, 0x16, 0x20, 0xF6, 0x00]] ∧
    (next (exec (.cmdRFConfiguration [0x05, 0xFF, 0x01, 0xFF] []) (fresh [.ok] []))).map writes =
      some [[0x00, 0x00, 0xFF, 0x06, 0xFA, 0xD4, 0x32, 0x05, 0xFF, 0x01, 0xFF, 0xF6, 0x00]] ∧
    (next (exec (.cmdInListPassiveTarget [0x01, 0x00] []) (fresh [.ok] []))).map writes =
      some [[0x00, 0x00, 0xFF, 0x04, 0xFC, 0xD4, 0x4A, 0x01, 0x00, 0xE1, 0x00]] ∧
    (next (exec (.infoFrame 0xD4 0x00 [] []) (fresh [.ok] []))).map (fun t => (writes t, t.txstate)) =
      some ([[0x00, 0x00, 0xFF, 0x02, 0xFE, 0xD4, 0x00, 0x2C, 0x00]], .ackWait) := by decide

/-- What the response poll finds in a frame that the chip has ready. -/
theorem receive_by_response_poll {s : State} {b : Bytes} (hs : s.pollRespDue = true) (hb : 9 ≤ b.length) :
    receive b s = checkResponse (decodeFrame (b.take 262)) ((s.present b).afterRead 263) := by
  have ha : s.pollAckDue = false := by
    by_contra hc
    rw [not_pollRespDue_of_pollAckDue (by simpa using hc)] at hs
    cases hs
  have hr : respUsable s.params.readyMask.val
      (((Config.freeStatus s.draws ||| s.params.readyMask.val) :: b).take 263) = true := by
    have := or_and_self_ne_zero (Config.freeStatus s.draws) s.params.readyMask.val s.params.readyMask.2
    rw [respUsable, Bool.and_eq_true]
    exact ⟨by simp [Config.minFrame]; omega, by simpa [bufReady] using this⟩
  unfold receive
  rw [ha, hs]
  show pollResp (s.present b) = _
  unfold pollResp
  rw [show (s.present b).nextRead Config.respReadLen =
    .ok (((Config.freeStatus s.draws ||| s.params.readyMask.val) :: b).take 263) from rfl]
  show examineResp _ ((s.present b).afterRead 263) = _
  unfold examineResp
  rw [show ((s.present b).afterRead 263).params = s.params from rfl, hr]
  rfl

/-- A firmware response is read by the due poll; with no poll due it waits for the next read. -/
theorem test_rspGetFirmwareVersion :
    (next (exec (.rspGetFirmwareVersion [0x20, 0x01, 0x06, 0x07] []) (respWait 0x02 0 0 []))).map outcome =
      some ⟨.done, .idle, .none, .none, 0x03, [0x20, 0x01, 0x06, 0x07]⟩ ∧
    (next (exec (.rspGetFirmwareVersion [0x20, 0x01, 0x06, 0x07] []) (respWait 0x02 3 10 []))).map phase =
      some ⟨.responseWait, .awaitingResponse, 3, 10, true⟩ := by
  refine ⟨?_, rfl⟩
  show some (outcome (receive fwFrame _)) = _
  rw [receive_by_response_poll rfl (by decide)]; rfl

theorem test_rspSAMConfiguration :
    (next (exec (.rspSAMConfiguration [] []) (respWait 0x14 0 0 []))).map outcome =
      some ⟨.done, .idle, .none, .none, 0x15, []⟩ := by
  show some (outcome (receive _ _)) = _
  rw [receive_by_response_poll rfl (by decide)]; rfl

theorem test_rspPowerDown :
    (next (exec (.rspPowerDown [0x00] []) (respWait 0x16 0 0 []))).map outcome =
      some ⟨.done, .poweredDown, .none, .none, 0x17, [0x00]⟩ := by
  show some (outcome (receive _ _)) = _
  rw [receive_by_response_poll rfl (by decide)]; rfl

theorem test_rspRFConfiguration :
    (next (exec (.rspRFConfiguration [] []) (respWait 0x32 0 0 []))).map outcome =
      some ⟨.done, .idle, .none, .none, 0x33, []⟩ := by
  show some (outcome (receive _ _)) = _
  rw [receive_by_response_poll rfl (by decide)]; rfl

theorem test_rspInListPassiveTarget :
    (next (exec (.rspInListPassiveTarget [0x00] []) (respWait 0x02 0 0 []))).map outcome =
      some ⟨.failed, .error, .opcodeMismatch, .none, 0x00, []⟩ := by
  show some (outcome (receive _ _)) = _
  rw [receive_by_response_poll rfl (by decide)]; rfl

/-- V-Q12 with the frame as the event. -/
theorem test_infoFrame_response :
    (next (exec (.infoFrame 0xD5 0x00 [0xAB] []) (respWait 0xFF 0 0 []))).map outcome =
      some ⟨.done, .idle, .none, .none, 0x00, [0xAB]⟩ := by
  show some (outcome (receive _ _)) = _
  rw [receive_by_response_poll rfl (by decide)]; rfl

/-- V-Q3 with the frame as the event; and the frame held when no poll is due. -/
theorem test_ackFrame :
    (next (exec (.ackFrame [0x00, 0x00, 0x00]) (respWait 0x02 0 0 []))).map outcome =
      some ⟨.failed, .error, .unexpectedAck, .none, 0x00, []⟩ ∧
    (next (exec (.ackFrame []) (fresh [] []))).map (fun t => (outcome t, t.readAns.length)) =
      some (⟨.idle, .idle, .none, .none, 0x00, []⟩, 1) := by
  refine ⟨?_, rfl⟩
  show some (outcome (receive _ _)) = _
  rw [receive_by_response_poll rfl (by decide)]; rfl

/-! ### The step -/

/-- The word of V-E1 is the next step's instruction, the first after reset: with a write answered `Ok` it waits for the ACK. -/
theorem test_step_runs_fetched_word :
    (next (step ((fresh [.ok] []).withFetchWord 72 0x002A02D4FE02FF0000))).map (fun t => (phase t, writes t, t.pending)) =
      some (⟨.ackWait, .awaitingAck, 0, 0, true⟩, [[0x00, 0x00, 0xFF, 0x02, 0xFE, 0xD4, 0x02, 0x2A, 0x00]], []) := by
  decide +kernel

/-- With nothing pending the block takes its own step: the poll that is due, else `TICK`. -/
theorem test_own_step :
    (next (step (ackWait 0 0 true [] [ackReady]))).map phase = some ⟨.responseWait, .awaitingResponse, 0, 0, true⟩ ∧
    (next (step (ackWait 3 10 true [] []))).map phase = some ⟨.ackWait, .awaitingAck, 4, 10, true⟩ ∧
    (next (step (fresh [] []))).map phase = some ⟨.idle, .idle, 0, 0, false⟩ := by decide

/-- The numeric codes of 10_state.md R21, R22, R24, R25. -/
theorem test_codes :
    DevState.error.code = 4 ∧ TxState.responseWait.code = 2 ∧ ErrKind.setupFailed.code = 10 ∧
    errSubCode .badDirection = 9 := by decide

/-! ### Witnesses: each statement's hypotheses can be met, at the ends of their ranges -/

/-- A payload of the given length. -/
def pay (n : Nat) : Bytes := List.replicate n 0xAA

theorem witness_DcsReturnsTwosComplementOfSum :
    ([0x01, 0x02] : Bytes).Perm [0x02, 0x01] ∧
    1 < ([0x01, 0x02] : Bytes).length ∧ (0x03 : Byte) ≠ ([0x01, 0x02] : Bytes).getD 1 0 :=
  ⟨List.Perm.swap _ _ _, by decide, by decide⟩

theorem witness_EncodeReturnsFrameOrRefuses : (pay 252).length ≤ 252 ∧ 252 < (pay 253).length := by decide +kernel

theorem witness_EncodedFrameProperties :
    (pay 252).length ≤ 252 ∧ ∃ f, encodeFrame 0x40 (pay 252) = some f :=
  ⟨by decide +kernel, _, encodeFrame_of_le _ (by decide +kernel)⟩

theorem witness_DecodeOfEncodeRoundTrips : (pay 0).length ≤ 252 ∧ (pay 252).length ≤ 252 := by decide +kernel

/-- The last byte of V-D1, its postamble, and the byte after it in V-D15. -/
theorem witness_OneByteChangeIsMalformed :
    (decodeFrame fwFrame = .ok 0xD5 0x03 [0x20, 0x01, 0x06, 0x07] ∧
      12 < (fwFrame.getD 3 0).toNat + 7 ∧ (0x01 : Byte) ≠ fwFrame.getD 12 0) ∧
    (let b := fwFrame ++ [0xAA, 0x55]
     decodeFrame b = .ok 0xD5 0x03 [0x20, 0x01, 0x06, 0x07] ∧ (b.getD 3 0).toNat + 7 ≤ 13 ∧
       (0x01 : Byte) ≠ b.getD 13 0) := by decide

theorem witness_AckNeverDecodesAsDataFrame :
    ((0xD5 : Byte) = 0xD4 ∨ (0xD5 : Byte) = 0xD5) ∧ (pay 253).length ≤ 253 := by decide +kernel

theorem witness_InstrDecodeOfEncode :
    (Instr.cmdPowerDown [0x20] [0x55]).wf = true ∧ ∃ b, encode (.cmdPowerDown [0x20] [0x55]) = some b :=
  ⟨by decide, _, rfl⟩

theorem witness_InstrEncodeOfDecode : decode fwFrame = .ok (.rspGetFirmwareVersion [0x20, 0x01, 0x06, 0x07] []) := by rfl

theorem witness_StepRunsFetchedInstruction :
    (∃ s : State, ∃ r, s.pending = .wire ack :: r ∧ decode ack = .ok (.ackFrame [])) ∧
    (∃ s : State, ∃ r, s.pending = .wire [0x00] :: r ∧ decode [0x00] = .error .tooShort) ∧
    (∃ s : State, ∃ r, s.pending = .op .wake :: r) ∧
    (∃ s : State, s.pending = [] ∧ s.pollAckDue = true) ∧
    (∃ s : State, s.pending = [] ∧ s.pollRespDue = true) ∧
    (∃ s : State, s.pending = [] ∧ s.pollAckDue = false ∧ s.pollRespDue = false) ∧
    (∃ i, decodeTableWord 72 0x002A02D4FE02FF0000 = some i) :=
  ⟨⟨(fresh [] []).handWire ack, [], rfl, rfl⟩, ⟨(fresh [] []).handWire [0x00], [], rfl, rfl⟩,
    ⟨{ fresh [] [] with pending := [.op .wake] }, [], rfl⟩, ⟨ackWait 0 0 true [] [], rfl, rfl⟩,
    ⟨respWait 0x02 0 0 [], rfl, rfl⟩, ⟨fresh [] [], rfl, rfl, rfl⟩, _, test_decode_table_word⟩

theorem witness_BusAccessRecordsItsEvent :
    (fresh [.ok] []).writeAns = .ok :: [] ∧
    ((fresh [] [ackReady]).readAns = ackReady :: [] ∧ (0x01 :: ack).length ≤ 7) ∧
    (fresh [] [.ioErr 7]).readAns = .ioErr 7 :: [] ∧
    (fresh [] [ackReady]).nextRead 7 = .ok (0x01 :: ack) := ⟨rfl, ⟨rfl, by decide⟩, rfl, rfl⟩

theorem fresh_ready (w : List WriteAnswer) (r : List ReadAnswer) : (fresh w r).ready := ⟨rfl, nofun⟩

theorem witness_StartSendsFrameOrFails :
    ((fresh [.ok] []).ready ∧ (pay 252).length ≤ 252 ∧ (fresh [.ok] []).nextWrite = .ok) ∧
    ((fresh [.ioErr 7] []).ready ∧ (pay 252).length ≤ 252 ∧ (fresh [.ioErr 7] []).nextWrite = .ioErr 7) :=
  ⟨⟨fresh_ready _ _, by decide +kernel, rfl⟩, fresh_ready _ _, by decide +kernel, rfl⟩

theorem witness_StartGatesInOrder :
    (ackWait 0 0 true [] []).txstate = .ackWait ∧ (respWait 0x02 0 0 []).txstate = .responseWait ∧
    (asleep.txstate ≠ .ackWait ∧ asleep.txstate ≠ .responseWait ∧ asleep.devstate = .poweredDown) ∧
    ((fresh [] []).txstate ≠ .ackWait ∧ (fresh [] []).txstate ≠ .responseWait ∧
      (fresh [] []).devstate ≠ .poweredDown ∧ 252 < (pay 253).length) := by decide +kernel

theorem witness_StartersRefusedWhileInFlight :
    (Instr.setup.startsTransaction = true ∧ (ackWait 0 0 true [] []).txstate = .ackWait) ∧
    ((Instr.cmdPowerDown [0x20] []).startsTransaction = true ∧ (respWait 0x02 0 0 []).txstate = .responseWait) := by decide

theorem witness_CommandFrameRunsAsStart :
    (Instr.infoFrame 0xD4 0x00 [] []).commandOf = some (0x00, []) ∧
    (Instr.cmdPowerDown [0x20] [0x55]).commandOf = some (0x16, [0x20]) ∧
    (fresh [.ok] []).ready ∧ (fresh [.ok] []).nextWrite = .ok := ⟨by decide, by decide, fresh_ready _ _, rfl⟩

theorem witness_PollFailsOnReadError :
    ((ackWait 20 20 true [] [.ioErr 7]).pollAckDue = true ∧ (ackWait 20 20 true [] [.ioErr 7]).nextRead 7 = .ioErr 7) ∧
    ((respWait 0x02 0 0 [.ioErr 7]).pollRespDue = true ∧ (respWait 0x02 0 0 [.ioErr 7]).nextRead 263 = .ioErr 7) := by decide

/-- One tick before the deadline; a buffer one byte short, and one whose status has only another bit set. -/
theorem witness_AckPollNotReadyReschedules :
    (let s := ackWait 19 19 true [] [.ok (pay 6)]
     s.pollAckDue = true ∧ s.nextRead 7 = .ok (pay 6) ∧ (pay 6).length < 7 ∧ s.elapsed.toNat < s.tAck.toNat) ∧
    (let s := ackWait 19 19 true [] [.ok (0x80 :: ack)]
     s.pollAckDue = true ∧ s.nextRead 7 = .ok (0x80 :: ack) ∧
       (0x80 :: ack).getD 0 0 &&& s.params.readyMask.val = 0 ∧ s.elapsed.toNat < s.tAck.toNat) := by decide

theorem witness_AckSeenEntersResponseWait :
    let s := ackWait 20 20 false [] [.ok (0x03 :: ack)]
    s.pollAckDue = true ∧ (0x03 : Byte) &&& s.params.readyMask.val ≠ 0 ∧ s.nextRead 7 = .ok (0x03 :: ack) := by decide

theorem witness_AckMismatchFails :
    let six : Bytes := [0x00, 0x00, 0xFF, 0x03, 0xFD, 0xD5]
    let s := ackWait 0 0 true [] [.ok (0x01 :: six)]
    s.pollAckDue = true ∧ (0x01 : Byte) &&& s.params.readyMask.val ≠ 0 ∧ six.length = 6 ∧
      six ≠ [0x00, 0x00, 0xFF, 0x00, 0xFF, 0x00] ∧ s.nextRead 7 = .ok (0x01 :: six) := by decide

theorem witness_AckDeadlineRetriesOnceThenFails :
    (let s := ackWait 20 20 true [.ok] [.ok []]
     s.pollAckDue = true ∧ s.nextRead 7 = .ok [] ∧ s.elapsed = s.tAck ∧ s.retryLeft = true ∧
       (s.afterRead 7).nextWrite = .ok) ∧
    (let s := ackWait 20 20 true [.ioErr 7] [.ok []]
     s.pollAckDue = true ∧ s.nextRead 7 = .ok [] ∧ s.elapsed = s.tAck ∧ s.retryLeft = true ∧
       (s.afterRead 7).nextWrite = .ioErr 7) ∧
    (let s := ackWait 20 20 false [] [.ok []]
     s.pollAckDue = true ∧ s.nextRead 7 = .ok [] ∧ s.elapsed = s.tAck ∧ s.retryLeft = false) := by decide

theorem witness_OnlyFirstAckTimeoutResends :
    ∃ t, next (exec .pollAck (ackWait 20 20 true [.ok] [notReady])) = some t ∧
      BusEvent.write 0x24 [0x00, 0x00, 0xFF, 0x02, 0xFE, 0xD4, 0x02, 0x2A, 0x00] .ok ∈
        t.trace.drop (ackWait 20 20 true [.ok] [notReady]).trace.length := ⟨_, rfl, by decide⟩

theorem witness_ResponsePollNotReady :
    (let s := respWait 0x02 14 14 [.ok (pay 9)]
     s.pollRespDue = true ∧ s.nextRead 263 = .ok (pay 9) ∧ (pay 9).length < 10 ∧ s.elapsed.toNat < s.tResp.toNat) ∧
    (let s := respWait 0x02 15 15 [.ok (0x80 :: fwFrame)]
     s.pollRespDue = true ∧ s.nextRead 263 = .ok (0x80 :: fwFrame) ∧
       (0x80 :: fwFrame).getD 0 0 &&& s.params.readyMask.val = 0 ∧ s.tResp.toNat ≤ s.elapsed.toNat) := by decide

/-- Three buffers, of the shortest length that is decoded where the clause allows it. -/
theorem witness_ResponseDecodeAndDirectionFailures :
    (let b := ack ++ pay 3
     let s := respWait 0x02 0 0 [.ok (0x01 :: b)]
     s.pollRespDue = true ∧ (0x01 : Byte) &&& s.params.readyMask.val ≠ 0 ∧ 9 ≤ b.length ∧
       s.nextRead 263 = .ok (0x01 :: b) ∧ decodeFrame b = .unexpectedAck) ∧
    (let b := pay 9
     let s := respWait 0x02 0 0 [.ok (0x01 :: b)]
     s.pollRespDue = true ∧ 9 ≤ b.length ∧ s.nextRead 263 = .ok (0x01 :: b) ∧ decodeFrame b = .malformed .badPreamble) ∧
    (let b : Bytes := [0x00, 0x00, 0xFF, 0x02, 0xFE, 0xD4, 0x02, 0x2A, 0x00]
     let s := respWait 0x02 0 0 [.ok (0x01 :: b)]
     s.pollRespDue = true ∧ 9 ≤ b.length ∧ s.nextRead 263 = .ok (0x01 :: b) ∧ decodeFrame b = .ok 0xD4 0x02 [] ∧
       (0xD4 : Byte) ≠ 0xD5) := by decide

theorem witness_UncorrelatedResponseFails :
    let b : Bytes := [0x00, 0x00, 0xFF, 0x02, 0xFE, 0xD5, 0x15, 0x16, 0x00]
    let s := respWait 0x02 0 0 [.ok (0x01 :: b)]
    s.pollRespDue = true ∧ (0x01 : Byte) &&& s.params.readyMask.val ≠ 0 ∧ 9 ≤ b.length ∧
      s.nextRead 263 = .ok (0x01 :: b) ∧ decodeFrame b = .ok 0xD5 0x15 [] ∧
      (0x15 : Byte).toNat ≠ (s.cmdOpcode.toNat + 1) % 256 := by decide

/-- The command opcode whose expected response wraps. -/
theorem witness_CorrelatedResponseCompletes :
    let b : Bytes := [0x00, 0x00, 0xFF, 0x03, 0xFD, 0xD5, 0x00, 0xAB, 0x80, 0x00]
    let s := respWait 0xFF 15 15 [.ok (0x81 :: b)]
    s.pollRespDue = true ∧ (0x81 : Byte) &&& s.params.readyMask.val ≠ 0 ∧ 9 ≤ b.length ∧
      s.nextRead 263 = .ok (0x81 :: b) ∧ decodeFrame b = .ok 0xD5 0x00 [0xAB] ∧
      (0x00 : Byte).toNat = (s.cmdOpcode.toNat + 1) % 256 := by decide

theorem witness_TickCountsWhileWaiting :
    ((ackWait 9 10 true [] []).busy = true ∧
      (ackWait 9 10 true [] []).elapsed.toNat < (ackWait 9 10 true [] []).nextpoll.toNat) ∧
    asleep.busy = false ∧
    ((respWait 0x02 10 10 []).busy = true ∧
      (respWait 0x02 10 10 []).nextpoll.toNat ≤ (respWait 0x02 10 10 []).elapsed.toNat) := by decide

theorem witness_PollsEnabledExactlyWhenDue :
    (let s := ackWait 10 10 true [] []; s.txstate = .ackWait ∧ s.elapsed = s.nextpoll) ∧
    (let s := ackWait 9 10 true [] []; ¬ (s.txstate = .ackWait ∧ s.elapsed = s.nextpoll)) ∧
    (let s := respWait 0x02 15 15 []; s.txstate = .responseWait ∧ s.elapsed = s.nextpoll) ∧
    (let s := ackWait 10 10 true [] []; ¬ (s.txstate = .responseWait ∧ s.elapsed = s.nextpoll)) := by decide

theorem witness_WakeOnlyLiftsPowerDown :
    asleep.devstate = .poweredDown ∧ (fresh [] []).devstate ≠ .poweredDown := by decide

theorem witness_ResponseFrameReadByDuePoll :
    ((Instr.rspPowerDown (pay 253) [0x55]).responseOf = some (0x17, pay 253, [0x55]) ∧ (pay 253).length ≤ 253 ∧
      (respWait 0x16 15 15 []).pollRespDue = true ∧ (0x17 : Byte) = (respWait 0x16 15 15 []).cmdOpcode + 1) ∧
    ((Instr.infoFrame 0xD5 0x00 [] []).responseOf = some (0x00, [], []) ∧
      (respWait 0x16 0 0 []).pollRespDue = true ∧ (0x00 : Byte) ≠ (respWait 0x16 0 0 []).cmdOpcode + 1) := by
  decide +kernel

theorem witness_FrameReadByDueAckPoll :
    (ackWait 20 20 true [] []).pollAckDue = true ∧
    (Instr.rspGetFirmwareVersion (pay 253) []).responseOf = some (0x03, pay 253, []) ∧ (pay 253).length ≤ 253 := by
  decide +kernel

theorem witness_AckFrameInResponseWait :
    ((respWait 0x02 0 0 []).pollRespDue = true ∧ 3 ≤ (pay 3).length) ∧
    (let s := respWait 0x02 14 14 []; s.pollRespDue = true ∧ (pay 2).length < 3 ∧ s.elapsed.toNat < s.tResp.toNat) ∧
    (let s := respWait 0x02 15 15 []; s.pollRespDue = true ∧ (pay 2).length < 3 ∧ s.tResp.toNat ≤ s.elapsed.toNat) := by
  decide

/-- Bytes that are no frame, at the lengths where the clauses meet: six bytes for the ACK poll, nine for the response poll. -/
theorem witness_UndecodedBytesReadByDuePoll :
    (∀ n ∈ [5, 6, 8], decode (pay n) = .error .tooShort) ∧ decode (pay 9) = .error .badPreamble ∧
    (let s := (ackWait 20 20 true [.ok] []).handWire (pay 6)
     s.pending = .wire (pay 6) :: [] ∧ s.pollAckDue = true ∧ 6 ≤ (pay 6).length) ∧
    (let s := (ackWait 10 10 true [] []).handWire (pay 5)
     s.pollAckDue = true ∧ (pay 5).length < 6 ∧ s.elapsed.toNat < s.tAck.toNat) ∧
    (∀ w ∈ [WriteAnswer.ok, .ioErr 7], ∀ retry : Bool, let s := (ackWait 20 20 retry [w] []).handWire (pay 5)
      s.pollAckDue = true ∧ s.tAck.toNat ≤ s.elapsed.toNat ∧ s.retryLeft = retry ∧ s.nextWrite = w) ∧
    (let s := (respWait 0x02 15 15 []).handWire (pay 9)
     s.pollRespDue = true ∧ 9 ≤ (pay 9).length) ∧
    (let s := (respWait 0x02 14 14 []).handWire (pay 8)
     s.pollRespDue = true ∧ (pay 8).length < 9 ∧ s.elapsed.toNat < s.tResp.toNat) ∧
    (let s := (respWait 0x02 15 15 []).handWire (pay 8)
     s.pollRespDue = true ∧ s.tResp.toNat ≤ s.elapsed.toNat) ∧
    (let s := (respWait 0x02 9 10 []).handWire (pay 9)
     s.pollAckDue = false ∧ s.pollRespDue = false) := by decide

theorem witness_FrameHeldUntilNextRead :
    (respWait 0x02 9 10 []).pollAckDue = false ∧ (respWait 0x02 9 10 []).pollRespDue = false ∧
    (Instr.rspRFConfiguration [] []).responseOf = some (0x33, [], []) := by decide

/-- For the four macro-sequences: a state at rest, awake and asleep; `test_getfw`, `test_setup`, `test_list` and
`test_pwrdown` reach each kind of result. -/
theorem witness_macros_at_rest :
    (fresh [] []).busy = false ∧ (fresh [] []).devstate ≠ .poweredDown ∧ asleep.busy = false ∧
      asleep.devstate = .poweredDown := by decide

theorem witness_MacrosSucceedWithAnsweringChip :
    let q1 : Bytes := []
    let r2 : List ReadAnswer := [.ok (0x01 :: ack), .ok (0x01 :: wireFrame 0xD5 0x33 [])]
    let s := fresh [.ok, .ok] (.ok (0x01 :: ack) :: .ok (0x01 :: wireFrame 0xD5 0x15 q1) :: r2)
    let g := fresh [.ok] [.ok (0x01 :: ack), .ok (0x01 :: wireFrame 0xD5 0x03 [0x20, 0x01, 0x06, 0x07])]
    s.ready ∧ (0x01 : Byte) &&& s.params.readyMask.val ≠ 0 ∧ s.writeAns = .ok :: [.ok] ∧
      s.readAns = .ok [0x01, 0x00, 0x00, 0xFF, 0x00, 0xFF, 0x00] :: .ok (0x01 :: wireFrame 0xD5 0x15 q1) :: r2 ∧
      g.readAns = .ok [0x01, 0x00, 0x00, 0xFF, 0x00, 0xFF, 0x00] ::
        .ok (0x01 :: wireFrame 0xD5 0x03 [0x20, 0x01, 0x06, 0x07]) :: [] ∧
      parseTargets g.draws [0x00] = some [] := ⟨fresh_ready _ _, by decide, rfl, rfl, rfl, rfl⟩

theorem ackWait_inv : (ackWait 3 10 true [] []).Inv :=
  ⟨rfl, by unfold State.TimersOk; decide, by unfold State.ErrorsOk; decide, by unfold State.CommandOk; decide,
    by unfold State.ResultOk; decide⟩

/-- At the deadline of the response phase. -/
theorem respWait_inv : (respWait 0xFF 15 15 []).Inv :=
  ⟨rfl, by unfold State.TimersOk; decide, by unfold State.ErrorsOk; decide, by unfold State.CommandOk; decide,
    by unfold State.ResultOk; decide⟩

theorem asleep_inv : asleep.Inv :=
  ⟨.inr rfl, by unfold State.TimersOk; decide, by unfold State.ErrorsOk; decide, by unfold State.CommandOk; decide,
    by unfold State.ResultOk; decide⟩

theorem witness_StepKeepsInvariant :
    (ackWait 3 10 true [] []).Inv ∧ ∃ t, step (ackWait 3 10 true [] []) = .next t := ⟨ackWait_inv, _, rfl⟩

theorem witness_OwnStepNeverStuck : (respWait 0xFF 15 15 []).Inv ∧ (respWait 0xFF 15 15 []).pending = [] :=
  ⟨respWait_inv, rfl⟩

theorem witness_OnlyStartAndResetWriteCommand :
    (∃ t, exec .pollAck (ackWait 0 0 true [] [ackReady]) = .next t) ∧ Instr.pollAck.startsTransaction = false ∧
      Instr.pollAck ≠ .reset ∧ (ackWait 0 0 true [] [ackReady]).txstate ≠ .responseWait :=
  ⟨⟨_, rfl⟩, rfl, nofun, by decide⟩

theorem witness_BusUseOfEachStep :
    (∃ t, exec .tick (ackWait 9 10 true [] []) = .next t) ∧
    (∃ t, exec .pollAck (ackWait 20 20 true [.ok] [notReady]) = .next t) ∧
    (∃ t, exec .pollResp (respWait 0x02 0 0 [notReady]) = .next t) ∧
    (∃ t, exec (.start 0x02 [] none none) asleep = .next t) ∧
    (∃ t, exec (.start 0x02 [] none none) (fresh [.ok] []) = .next t) :=
  ⟨⟨_, rfl⟩, ⟨_, rfl⟩, ⟨_, rfl⟩, ⟨_, rfl⟩, _, rfl⟩

theorem witness_TraceOnlyGrowsAndConfigurationStays :
    ∃ t, exec .pollAck (ackWait 20 20 true [.ok] [notReady]) = .next t := ⟨_, rfl⟩

theorem witness_OnlyPowerDownCommandSleeps :
    let s := respWait 0x16 0 0 [.ok [0x01, 0x00, 0x00, 0xFF, 0x03, 0xFD, 0xD5, 0x17, 0x00, 0x14, 0x00]]
    ∃ t, exec .pollResp s = .next t ∧ s.devstate ≠ .poweredDown ∧ t.devstate = .poweredDown :=
  ⟨_, rfl, by decide, rfl⟩

theorem witness_SleepingBlockStaysOffTheBus :
    asleep.Inv ∧ asleep.devstate = .poweredDown ∧ (∃ t, exec (.start 0x02 [] none none) asleep = .next t) ∧
      Instr.start 0x02 [] none none ≠ .wake ∧ Instr.start 0x02 [] none none ≠ .reset :=
  ⟨asleep_inv, rfl, ⟨_, rfl⟩, nofun, nofun⟩

theorem witness_TerminalStatesLeftOnlyByStartOrReset :
    (∃ t, exec .wake asleep = .next t) ∧ Instr.wake.startsTransaction = false ∧ Instr.wake ≠ .reset ∧
      asleep.txstate = .done := ⟨⟨_, rfl⟩, rfl, nofun, rfl⟩

theorem witness_TransactionTerminates : (ackWait 3 10 true [] []).Inv ∧ (ackWait 3 10 true [] []).busy = true :=
  ⟨ackWait_inv, rfl⟩

theorem witness_NeverReadyChipGivesAckTimeoutAfterOneRetry :
    let chip : State → ReadAnswer := fun _ => notReady
    let s := ackWait 0 0 true [.ok] []
    (∀ u, ∃ buf, chip u = .ok buf ∧ (buf.length < 7 ∨ buf.getD 0 0 &&& s.params.readyMask.val = 0)) ∧
      s.txstate = .ackWait ∧ s.elapsed = 0 ∧ s.nextpoll = 0 ∧ s.retryLeft = true ∧ s.nextWrite = .ok :=
  ⟨fun _ => ⟨_, rfl, .inr (by decide)⟩, rfl, rfl, rfl, rfl, rfl⟩

/-- A chip whose buffers are ready but one byte short of what the phase needs (20_memory.md R68). -/
theorem witness_TimedOutPhasePollCount :
    (let s := respWait 0x02 0 0 []
     s.elapsed = 0 ∧ s.nextpoll = 0 ∧ s.txstate = .responseWait ∧ (0x01 :: pay 8).length < 10) ∧
    (∀ retry : Bool, let s := ackWait 0 0 retry [] []
      s.elapsed = 0 ∧ s.nextpoll = 0 ∧ s.txstate = .ackWait ∧ s.retryLeft = retry ∧ (0x01 :: pay 5).length < 7) := by
  decide

/-- A chip that is ready from the deadline on, and one that is ready one tick after it. -/
theorem witness_ResponseTimeoutIsMonotone (d : Nat) (hd : d = 15 ∨ d = 16) :
    let chip : State → ReadAnswer := fun u => if u.elapsed.toNat < d then notReady else .ok (0x01 :: fwFrame)
    let s := respWait 0x02 0 0 []
    s.txstate = .responseWait ∧ s.elapsed = 0 ∧ s.nextpoll = 0 ∧ (0x03 : Byte) = s.cmdOpcode + 1 ∧
    (∀ u : State, u.elapsed.toNat < d →
      ∃ buf, chip u = .ok buf ∧ (buf.length < 10 ∨ buf.getD 0 0 &&& s.params.readyMask.val = 0)) ∧
    (∀ u : State, d ≤ u.elapsed.toNat → ∃ status b, chip u = .ok (status :: b) ∧ (status :: b).length ≤ 263 ∧
      status &&& s.params.readyMask.val ≠ 0 ∧ decodeFrame b = .ok 0xD5 0x03 [0x20, 0x01, 0x06, 0x07]) ∧
    ((d ≤ s.tResp.toNat ∧ d = 15) ∨ (s.tResp.toNat < d ∧ d = 16)) := by
  refine ⟨rfl, rfl, rfl, rfl, fun u hu => ⟨_, if_pos hu, .inl (by decide)⟩,
    fun u hu => ⟨_, _, if_neg (Nat.not_lt.2 hu), by decide, by decide, by decide⟩, ?_⟩
  rcases hd with rfl | rfl
  · exact .inl (by decide)
  · exact .inr (by decide)

/-- A chip that shows the ACK from the deadline on, and one that shows it one tick after it, in either attempt. -/
theorem witness_AckTimeoutIsMonotone (d : Nat) (hd : d = 20 ∨ d = 21) (retry : Bool) :
    let chip : State → ReadAnswer := fun u => if u.elapsed.toNat < d then notReady else ackReady
    let s := ackWait 0 0 retry [] []
    s.txstate = .ackWait ∧ s.elapsed = 0 ∧ s.nextpoll = 0 ∧ s.retryLeft = retry ∧
    (∀ u : State, u.elapsed.toNat < d →
      ∃ buf, chip u = .ok buf ∧ (buf.length < 7 ∨ buf.getD 0 0 &&& s.params.readyMask.val = 0)) ∧
    (∀ u : State, d ≤ u.elapsed.toNat → ∃ status : Byte, status &&& s.params.readyMask.val ≠ 0 ∧
      chip u = .ok [status, 0x00, 0x00, 0xFF, 0x00, 0xFF, 0x00]) ∧
    ((d ≤ s.tAck.toNat ∧ d = 20) ∨ (s.tAck.toNat < d ∧ d = 21)) := by
  refine ⟨rfl, rfl, rfl, rfl, fun u hu => ⟨_, if_pos hu, .inr (show (0x00 : Byte) &&& params.readyMask.val = 0 by decide)⟩,
    fun u hu => ⟨0x01, show (0x01 : Byte) &&& params.readyMask.val ≠ 0 by decide, if_neg (Nat.not_lt.2 hu)⟩, ?_⟩
  rcases hd with rfl | rfl
  · exact .inl (show 20 ≤ (20 : Timer).toNat ∧ 20 = 20 by decide)
  · exact .inr (show (20 : Timer).toNat < 21 ∧ 21 = 21 by decide)

theorem witness_TransactionTraceShape :
    (fresh [.ok] []).ready ∧ (pay 252).length ≤ 252 ∧
      ∃ t, t = transact 0x40 (pay 252) (some 0) (some 0) (fresh [.ok] []) :=
  ⟨fresh_ready _ _, by decide +kernel, _, rfl⟩

/-- The last two clauses: the ACK is seen, and the response wait of no ticks times out. -/
theorem witness_TransactionTraceShape_ack_seen :
    (transact 0x02 [] (some 0) (some 0) (fresh [.ok] [ackReady, notReady])).err = .responseTimeout ∧
    (0x01 : Byte) &&& (fresh [.ok] []).params.readyMask.val ≠ 0 ∧ ackReady = .ok (0x01 :: ack) := by
  decide +kernel

end Sys2Proof.Tests
end

section
/-! SUPPORT. What an instruction that completes can have done, said once (30_encoding.md R118): the statements about every
instruction are case analyses of `ExecOutcome`. -/

namespace Sys2Proof.Machine

/-- A value on the result port, with `n` free values drawn for it (log entry 12). -/
def State.delivering (s : State) (r : Result) (n : Nat) : State := { s.returning r with draws := s.draws + n }

/-- What a codec function returns (40_framecodec.md R130 to R137); `ENCODE` refuses an over-long payload. -/
def codecResult : Instr → Option Result
  | .lcs len => some (.byte (lcsOf len))
  | .dcs tfi data => some (.byte (dcsOf tfi data))
  | .encode op p => (encodeFrame op p).map .frame
  | .isAck b => some (.flag (isAckBytes b))
  | .decode b => some (.decoded (decodeFrame b))
  | _ => none

/-- The state that an instruction completes with, by what the instruction runs. A sequence of the controller layer runs one
transaction, `SETUP` a second one when that succeeds (43_controller_sequences.md R220, R223); afterwards only the result port
and the counter of free values change. -/
inductive ExecOutcome (s : State) : Instr → State → Prop where
  | returned {i : Instr} (r : Result) (hi : codecResult i = some r) : ExecOutcome s i (s.returning r)
  | started {i : Instr} (op : Byte) (p : Bytes) (ta tr : Option Timer) (hi : i.startsTransaction = true)
      (hr : startRefusal p s = none) : ExecOutcome s i (startTaken op p ta tr s)
  | polledAck (hd : s.pollAckDue = true) : ExecOutcome s .pollAck (pollAck s)
  | polledResp (hd : s.pollRespDue = true) : ExecOutcome s .pollResp (pollResp s)
  | ticked (ht : s.tickEnabled = true) : ExecOutcome s .tick (tickState s)
  | woken : ExecOutcome s .wake { s with devstate := if s.devstate = .poweredDown then .idle else s.devstate }
  | reset : ExecOutcome s .reset s.resetRegisters
  | received {i : Instr} (b : Bytes) (hi : Sys2Proof.encode i = some b) : ExecOutcome s i (receive b s)
  | transacted {i : Instr} (op : Byte) (p : Bytes) (ta tr : Option Timer) (r : Result) (n : Nat)
      (hi : i.isMacro = true) (hr : startRefusal p s = none) :
      ExecOutcome s i ((transact op p ta tr s).delivering r n)
  | setUp (u : State) (r : Result) (n : Nat) (hr : startRefusal s.params.samPayload.val s = none)
      (hu : u = transact 0x14 s.params.samPayload.val none none s) (hf : u.isFailed = false) :
      ExecOutcome s .setup ((transact 0x32 u.params.rfPayload.val none none u).delivering r n)

/-- The five codec functions. -/
theorem returned_outcome {i : Instr} {s t : State} {r : Result} (hi : codecResult i = some r)
    (h : Host.Outcome.next (s.returning r) = (.next t : Host.Outcome State Fault Refusal)) : ExecOutcome s i t := by
  cases h; exact .returned r hi

/-- The chip-to-host frames. -/
theorem received_outcome {i : Instr} {s t : State} {b : Bytes} (hi : Sys2Proof.encode i = some b)
    (h : Host.Outcome.next (receive b s) = (.next t : Host.Outcome State Fault Refusal)) : ExecOutcome s i t := by
  cases h; exact .received b hi

/-- `START` and the host-to-chip frames. -/
theorem startOp_outcome {i : Instr} {s t : State} {op : Byte} {p : Bytes} {ta tr : Option Timer}
    (hi : i.startsTransaction = true) (h : startOp op p ta tr s = .next t) : ExecOutcome s i t := by
  obtain ⟨hr, rfl⟩ := (startOp_eq_next_iff op p ta tr s t).1 h
  exact .started op p ta tr hi hr

theorem execEncode_outcome {op : Byte} {p : Bytes} {s t : State} (h : execEncode op p s = .next t) :
    ExecOutcome s (.encode op p) t := by
  unfold execEncode at h
  split at h
  · next b hb => exact returned_outcome (by simp [codecResult, hb]) h
  · cases h

theorem execPollAck_outcome {s t : State} (h : execPollAck s = .next t) : ExecOutcome s .pollAck t := by
  unfold execPollAck at h
  split at h
  · cases h; exact .polledAck ‹_›
  · cases h

theorem execPollResp_outcome {s t : State} (h : execPollResp s = .next t) : ExecOutcome s .pollResp t := by
  unfold execPollResp at h
  split at h
  · cases h; exact .polledResp ‹_›
  · cases h

theorem execTick_outcome {s t : State} (h : execTick s = .next t) : ExecOutcome s .tick t := by
  unfold execTick at h
  split at h
  · cases h; exact .ticked ‹_›
  · cases h

theorem execInfoFrame_outcome {tfi op : Byte} {p tail : Bytes} {s t : State}
    (h : execInfoFrame tfi op p tail s = .next t) : ExecOutcome s (.infoFrame tfi op p tail) t := by
  unfold execInfoFrame at h
  split at h
  · next htfi => subst htfi; exact startOp_outcome rfl h
  · exact received_outcome rfl h

/-- What a sequence of the controller layer makes of its ended transaction. -/
theorem returnUnlessFailed_delivers {f : State → State} {s : State} (hf : ∃ r n, f s = s.delivering r n) :
    ∃ r n, returnUnlessFailed f s = s.delivering r n := by
  unfold returnUnlessFailed
  split
  · exact ⟨.failed s.err, 0, rfl⟩
  · exact hf

theorem listTargets_delivers (s : State) : ∃ r n, listTargets s = s.delivering r n := by
  unfold listTargets
  split
  · next ts _ => exact ⟨.targets ts, ts.length, rfl⟩
  · exact ⟨.failed .protocolError, 0, rfl⟩

theorem setupRf_delivers (u : State) :
    ∃ r n, setupRf u = (transact 0x32 u.params.rfPayload.val none none u).delivering r n := by
  unfold setupRf
  dsimp only
  split
  · exact ⟨.setupFailed .rfConfiguration, 0, rfl⟩
  · exact ⟨.success, 0, rfl⟩

/-- The sequences of one transaction. -/
theorem transacted_outcome {i : Instr} {f : State → State} {s t : State} {op : Byte} {p : Bytes} {ta tr : Option Timer}
    (hi : i.isMacro = true) (hr : startRefusal p s = none) (hf : ∀ u, ∃ r n, f u = u.delivering r n)
    (h : Host.Outcome.next (returnUnlessFailed f (transact op p ta tr s)) = (.next t : Host.Outcome State Fault Refusal)) :
    ExecOutcome s i t := by
  obtain ⟨r, n, he⟩ := returnUnlessFailed_delivers (hf (transact op p ta tr s))
  cases h
  exact he ▸ .transacted op p ta tr r n hi hr

theorem execGetfw_outcome {s t : State} (h : execGetfw s = .next t) : ExecOutcome s .getfw t := by
  unfold execGetfw at h
  split at h
  · cases h
  · exact transacted_outcome rfl ‹_› (fun u => ⟨firmwareOf u.respPayload, 0, rfl⟩) h

theorem execList_outcome {limit : Timer} {s t : State} (h : execList limit s = .next t) :
    ExecOutcome s (.list limit) t := by
  unfold execList at h
  split at h
  · cases h
  · exact transacted_outcome rfl ‹_› listTargets_delivers h

theorem execPwrdown_outcome {s t : State} (h : execPwrdown s = .next t) : ExecOutcome s .pwrdown t := by
  unfold execPwrdown at h
  split at h
  · cases h
  · exact transacted_outcome rfl ‹_› (fun _ => ⟨.success, 0, rfl⟩) h

theorem execSetup_outcome {s t : State} (h : execSetup s = .next t) : ExecOutcome s .setup t := by
  unfold execSetup at h
  split at h
  · cases h
  · next hr =>
    dsimp only at h
    split at h <;> cases h
    · exact .transacted _ _ none none (.setupFailed .samConfiguration) 0 rfl hr
    · next hf =>
      obtain ⟨r, n, he⟩ := setupRf_delivers (transact 0x14 s.params.samPayload.val none none s)
      exact he ▸ .setUp _ r n hr rfl (by simpa using hf)

theorem exec_outcome {i : Instr} {s t : State} (h : exec i s = .next t) : ExecOutcome s i t := by
  cases i with
  | lcs | dcs | isAck | decode => exact returned_outcome rfl h
  | encode => exact execEncode_outcome h
  | pollAck => exact execPollAck_outcome h
  | pollResp => exact execPollResp_outcome h
  | tick => exact execTick_outcome h
  | wake => exact Host.Outcome.next.inj h ▸ .woken
  | reset => exact Host.Outcome.next.inj h ▸ .reset
  | getfw => exact execGetfw_outcome h
  | setup => exact execSetup_outcome h
  | list => exact execList_outcome h
  | pwrdown => exact execPwrdown_outcome h
  | infoFrame => exact execInfoFrame_outcome h
  | start | cmdGetFirmwareVersion | cmdSAMConfiguration | cmdPowerDown | cmdRFConfiguration | cmdInListPassiveTarget =>
    exact startOp_outcome rfl h
  | ackFrame | rspGetFirmwareVersion | rspSAMConfiguration | rspPowerDown | rspRFConfiguration
  | rspInListPassiveTarget => exact received_outcome rfl h

end Sys2Proof.Machine
end

section
/-! SUPPORT. The invariant `State.Inv`: it speaks of the registers only, and each operation of the block keeps it. -/

namespace Sys2Proof.Machine

/-! ### Operations on the model's own fields -/

theorem State.Inv.returning {s : State} (h : s.Inv) (r : Result) : (s.returning r).Inv :=
  ⟨h.coupled, h.timers, h.errors, h.command, h.result⟩

theorem State.Inv.present {s : State} (h : s.Inv) (b : Bytes) : (s.present b).Inv :=
  ⟨h.coupled, h.timers, h.errors, h.command, h.result⟩

theorem State.Inv.afterRead {s : State} (h : s.Inv) (n : Nat) : (s.afterRead n).Inv :=
  ⟨h.coupled, h.timers, h.errors, h.command, h.result⟩

theorem State.Inv.delivering {s : State} (h : s.Inv) (r : Result) (n : Nat) : (s.delivering r n).Inv :=
  ⟨h.coupled, h.timers, h.errors, h.command, h.result⟩

theorem State.Inv.withPending {s : State} (h : s.Inv) (q : List Input) : { s with pending := q }.Inv :=
  ⟨h.coupled, h.timers, h.errors, h.command, h.result⟩

/-! ### What the invariant gives of each phase -/

/-- 10_state.md R24, R25. -/
theorem State.Inv.no_error {s : State} (h : s.Inv) (ht : s.txstate ≠ .failed) : s.err = .none ∧ s.errSub = .none := by
  obtain ⟨hfailed, -, -, hsub⟩ := h.errors
  have herr : s.err = .none := by simpa [ht] using hfailed
  exact ⟨herr, by simpa [herr] using hsub⟩

/-- 10_state.md R33. -/
theorem State.Inv.result_cleared {s : State} (h : s.Inv) (ht : s.txstate ≠ .done) :
    s.respOpcode = 0 ∧ s.respPayload = [] := by
  obtain ⟨-, -, hclear⟩ := h.result
  exact hclear ht

/-- 10_state.md R28: a transaction in flight has its command encoded in `TXBUF`. -/
theorem State.Inv.txbuf_eq {s : State} (h : s.Inv) (hb : s.busy = true) :
    s.txbuf = infoFrameBytes 0xD4 s.cmdOpcode s.cmdPayload := by
  obtain ⟨-, htx, -⟩ := h.command
  exact htx.resolve_right fun hn => by simp [hb] at hn

/-! ### Failing -/

theorem errorsOk_raise (s : State) {f : Failure} (hf : f ≠ .malformedFrame .none) : (s.raise f).ErrorsOk := by
  unfold State.ErrorsOk
  cases f <;> simp_all [Failure.kind, Failure.sub]

/-- Failing leads to a state of the invariant as soon as the command registers are in order and the result is cleared. -/
theorem inv_raise_of_commandOk {s : State} {f : Failure} (hc : s.CommandOk) (ho : s.respOpcode = 0) (hp : s.respPayload = [])
    (hf : f ≠ .malformedFrame .none) : (s.raise f).Inv := by
  obtain ⟨hlen, htx, -⟩ := hc
  refine ⟨?_, ?_, errorsOk_raise s hf, ⟨hlen, ?_, nofun⟩, ?_⟩
  · have hk : f.kind ≠ .deviceAsleep := by cases f <;> nofun
    simp [State.Coupled, hk]
  · simp [State.TimersOk]
  · exact htx.imp_right fun h => ⟨h.1, rfl⟩
  · simp [State.ResultOk, ho, hp]

/-- A failing poll: while the transaction is in flight, the result is cleared. -/
theorem State.Inv.raise {s : State} (h : s.Inv) (ht : s.txstate ≠ .done) {f : Failure} (hf : f ≠ .malformedFrame .none) :
    (s.raise f).Inv := by
  obtain ⟨hop, hp⟩ := h.result_cleared ht
  exact inv_raise_of_commandOk h.command hop hp hf

/-! ### START -/

theorem State.Inv.failAsleep {s : State} (h : s.Inv) (hd : s.devstate = .poweredDown) : s.failAsleep.Inv := by
  obtain ⟨hlen, htx, hop⟩ := h.command
  refine ⟨.inl hd, ?_, ?_, ⟨hlen, ?_, hop⟩, ?_⟩
  · simp [State.TimersOk]
  · simp [State.ErrorsOk]
  · exact htx.imp_right fun hn => ⟨hn.1, rfl⟩
  · simp [State.ResultOk]

/-- An awake block latches a command that is in order (10_state.md R27, R28). -/
theorem commandOk_latchCommand {s : State} {p : Bytes} (op : Byte) (ta tr : Option Timer)
    (hd : s.devstate ≠ .poweredDown) (hp : p.length ≤ 252) : (s.latchCommand op p ta tr).CommandOk :=
  ⟨hp, .inl rfl, fun h => absurd h hd⟩

theorem inv_startTaken {s : State} {p : Bytes} (op : Byte) (ta tr : Option Timer) (h : s.Inv)
    (hr : startRefusal p s = none) : (startTaken op p ta tr s).Inv := by
  have htimers := timersOk_startTaken (op := op) (ta := ta) (tr := tr) hr
  obtain ⟨-, hp⟩ := (startRefusal_eq_none_iff p s).1 hr
  have ho := startTaken_outcome op p ta tr s
  generalize startTaken op p ta tr s = t at ho htimers
  cases ho with
  | asleep hd => exact h.failAsleep hd
  | sent hd hw =>
    obtain ⟨hlen, htx, -⟩ := commandOk_latchCommand op ta tr hd (hp.resolve_left hd)
    exact ⟨rfl, htimers, by simp [State.ErrorsOk], ⟨hlen, .inl rfl, nofun⟩, by simp [State.ResultOk]⟩
  | writeError info hd hw =>
    exact inv_raise_of_commandOk (commandOk_latchCommand op ta tr hd (hp.resolve_left hd)) rfl rfl nofun

/-! ### POLL_ACK -/

/-- An ACK poll that sees the ACK (41_handshake.md R166). -/
theorem State.Inv.enterResponseWait {s : State} (h : s.Inv) (ht : s.txstate = .ackWait) : s.enterResponseWait.Inv := by
  obtain ⟨hlen, -, -⟩ := h.command
  obtain ⟨herr, hsub⟩ := h.no_error (by simp [ht])
  obtain ⟨hop, hp⟩ := h.result_cleared (by simp [ht])
  refine ⟨rfl, ?_, ?_, ⟨hlen, .inl (h.txbuf_eq ((busy_iff s).2 (.inl ht))), nofun⟩, ?_⟩
  · simp [State.TimersOk]
  · simp [State.ErrorsOk, herr, hsub]
  · simp [State.ResultOk, hop, hp]

theorem inv_pollAck {s : State} (h : s.Inv) (hd : s.pollAckDue = true) : (pollAck s).Inv := by
  have htimers : (pollAck s).TimersOk := by simpa [ownStep, hd] using timersOk_ownStep h.timers
  obtain ⟨ht, -⟩ := (pollAckDue_iff s).1 hd
  have hdone : s.txstate ≠ .done := by simp [ht]
  have hread := h.afterRead Config.ackReadLen
  have ho := pollAck_outcome s
  generalize pollAck s = t at ho htimers
  cases ho with
  | readError | timeout | mismatch => exact hread.raise hdone nofun
  | wait | resend => exact ⟨h.coupled, htimers, h.errors, h.command, h.result⟩
  | resendError =>
    obtain ⟨hop, hp⟩ := h.result_cleared hdone
    exact inv_raise_of_commandOk h.command hop hp nofun
  | seen => exact hread.enterResponseWait ht

/-! ### POLL_RESP -/

/-- `DECODE` names the check that failed (40_framecodec.md R137). -/
theorem decodeFrame_ne_malformed_none (b : Bytes) : decodeFrame b ≠ .malformed .none := by
  unfold decodeFrame
  dsimp only
  split_ifs <;> nofun

/-- A one-byte LEN bounds the payload that `DECODE` returns (30_encoding.md R100). -/
theorem decodeFrame_payload_length_le {b : Bytes} {tfi op : Byte} {p : Bytes} (h : decodeFrame b = .ok tfi op p) :
    p.length ≤ 253 := by
  obtain ⟨-, -, -, -, -, -, -, -, -, -, -, -, rfl⟩ := (decodeFrame_eq_ok_iff b tfi op p).1 h
  have hlen := (byteAt b 3).isLt
  simp only [slice, List.length_take, List.length_drop]
  omega

theorem inv_complete {s : State} {op : Byte} {p : Bytes} (h : s.Inv) (ht : s.txstate = .responseWait)
    (hop : op = s.cmdOpcode + 1) (hp : p.length ≤ 253) : (complete op p s).Inv := by
  obtain ⟨hlen, -, -⟩ := h.command
  obtain ⟨herr, hsub⟩ := h.no_error (by simp [ht])
  have htx := h.txbuf_eq ((busy_iff s).2 (.inr ht))
  refine ⟨(ite_eq_or_eq _ _ _).symm, ?_, ?_, ⟨hlen, .inl htx, ?_⟩, ⟨hp, fun _ => hop, fun hn => absurd rfl hn⟩⟩
  · simp [State.TimersOk]
  · simp [State.ErrorsOk, herr, hsub]
  · simp

theorem inv_pollResp {s : State} (h : s.Inv) (hd : s.pollRespDue = true) : (pollResp s).Inv := by
  have hack : s.pollAckDue = false := by
    by_contra ha
    simp [not_pollRespDue_of_pollAckDue (by simpa using ha)] at hd
  have htimers : (pollResp s).TimersOk := by simpa [ownStep, hack, hd] using timersOk_ownStep h.timers
  obtain ⟨ht, -⟩ := (pollRespDue_iff s).1 hd
  have hdone : s.txstate ≠ .done := by simp [ht]
  have hread := h.afterRead Config.respReadLen
  have ho := pollResp_outcome s
  generalize pollResp s = t at ho htimers
  cases ho with
  | readError | timeout | unexpectedAck | badDirection | mismatch => exact hread.raise hdone nofun
  | malformed buf sub hb hu hm =>
    refine hread.raise hdone fun hf => decodeFrame_ne_malformed_none (buf.drop 1) ?_
    rw [hm, Failure.malformedFrame.inj hf]
  | wait => exact ⟨h.coupled, htimers, h.errors, h.command, h.result⟩
  | completed buf op p hb hu hm hop => exact inv_complete hread ht hop (decodeFrame_payload_length_le hm)

/-! ### TICK, WAKE, RESET and the runs of own steps -/

theorem inv_tickState {s : State} (h : s.Inv) : (tickState s).Inv := by
  obtain ⟨hack, hresp⟩ := h.timers
  unfold tickState
  split
  · next hlt =>
    have hlt' : s.elapsed.toNat < s.nextpoll.toNat := of_decide_eq_true (Bool.and_eq_true_iff.1 hlt).2
    have htimers : ({ s with elapsed := s.elapsed + 1 } : State).TimersOk := by
      simp only [State.TimersOk, elapsed_succ_toNat hlt']
      exact ⟨fun ht => ⟨hlt', (hack ht).2⟩, fun ht => ⟨hlt', (hresp ht).2⟩⟩
    exact ⟨h.coupled, htimers, h.errors, h.command, h.result⟩
  · exact h

/-- `WAKE` (42_system.md R201): the coupling lets a block sleep in a terminal state only, and there it allows `Idle` too, which
is the exception of 10_state.md R23. -/
theorem inv_wake {s : State} (h : s.Inv) :
    State.Inv { s with devstate := if s.devstate = .poweredDown then .idle else s.devstate } := by
  by_cases hd : s.devstate = .poweredDown
  · obtain ⟨hlen, htx, -⟩ := h.command
    refine ⟨?_, h.timers, h.errors, ⟨hlen, htx, by simp [hd]⟩, h.result⟩
    have hc := h.coupled
    unfold State.Coupled at hc ⊢
    cases ht : s.txstate <;> simp_all
  · simpa [hd] using h

theorem inv_resetRegisters (s : State) : s.resetRegisters.Inv :=
  ⟨rfl, by simp [State.TimersOk], by simp [State.ErrorsOk], ⟨Nat.zero_le _, .inr ⟨rfl, rfl⟩, nofun⟩,
    by simp [State.ResultOk]⟩

theorem inv_ownStep {s : State} (h : s.Inv) : (ownStep s).Inv := by
  have ho := ownStep_outcome s
  generalize ownStep s = t at ho
  cases ho with
  | ack hd => exact inv_pollAck h hd
  | resp hd => exact inv_pollResp h hd
  | tick => exact inv_tickState h

theorem inv_transact {s : State} {p : Bytes} (op : Byte) (ta tr : Option Timer) (h : s.Inv)
    (hr : startRefusal p s = none) : (transact op p ta tr s).Inv :=
  runOwn_keeps (P := State.Inv) (fun _ _ => inv_ownStep) _ _ (inv_startTaken op ta tr h hr)

theorem inv_receive {s : State} (h : s.Inv) (b : Bytes) : (receive b s).Inv := by
  have ho := receive_outcome b s
  generalize receive b s = t at ho
  cases ho with
  | ack hd => exact inv_pollAck (h.present b) hd
  | resp hd => exact inv_pollResp (h.present b) hd
  | held => exact h.present b

/-- The second transaction of `SETUP` is not refused (43_controller_sequences.md R223). -/
theorem startRefusal_rfPayload {s u : State} {op : Byte} {p : Bytes} {ta tr : Option Timer}
    (hr : startRefusal p s = none) (hu : u = transact op p ta tr s) :
    startRefusal u.params.rfPayload.val u = none := by
  refine (startRefusal_eq_none_iff _ u).2 ⟨(busy_eq_false_iff u).2 ?_, .inr u.params.rfPayload.2⟩
  rcases transact_terminal (op := op) (ta := ta) (tr := tr) hr with ht | ht <;> simp [hu, ht]

/-- An instruction that completes keeps the invariant. -/
theorem inv_exec {i : Instr} {s t : State} (h : s.Inv) (hx : exec i s = .next t) : t.Inv := by
  cases exec_outcome hx with
  | returned r _ => exact h.returning r
  | started op p ta tr hi hr => exact inv_startTaken op ta tr h hr
  | polledAck hd => exact inv_pollAck h hd
  | polledResp hd => exact inv_pollResp h hd
  | ticked => exact inv_tickState h
  | woken => exact inv_wake h
  | reset => exact inv_resetRegisters s
  | received b _ => exact inv_receive h b
  | transacted op p ta tr r n hi hr => exact (inv_transact op ta tr h hr).delivering r n
  | setUp u r n hr hu hf =>
    have hfirst : u.Inv := hu ▸ inv_transact 0x14 none none h hr
    exact (inv_transact 0x32 none none hfirst (startRefusal_rfPayload hr hu)).delivering r n

/-- The event is taken from the queue before it runs. -/
theorem inv_fetch {s : State} (h : s.Inv) : (fetch s).2.Inv := by
  unfold fetch
  split
  · exact h
  · exact h.withPending _

/-- Settles O47: what a step runs, an instruction or bytes that do not decode, keeps the invariant. -/
theorem stepKeepsInvariant : Obligations.StepKeepsInvariant := by
  intro s t h hs
  have hfetch := inv_fetch h
  unfold step at hs
  split at hs
  · next i u he => exact inv_exec (by simpa [he] using hfetch) hs
  · next b u he =>
    cases hs
    exact inv_receive (by simpa [he] using hfetch) b

/-- Settles O46: reset leaves the registers as `RESET` does. -/
theorem resetMeetsInvariant : Obligations.ResetMeetsInvariant :=
  inv_resetRegisters State.reset

end Sys2Proof.Machine
end

section
/-! SUPPORT. What the operations that issue no `START` leave unchanged: the command registers and the timeouts (10_state.md
R39), and outside a response poll the result. -/

namespace Sys2Proof.Machine

/-- The result registers have the values they had. -/
def State.SameResult (s t : State) : Prop := t.respOpcode = s.respOpcode ∧ t.respPayload = s.respPayload

theorem pollAck_sameCommand (s : State) : s.SameCommand (pollAck s) := by
  have ho := pollAck_outcome s
  generalize pollAck s = t at ho
  cases ho <;> exact ⟨rfl, rfl, rfl, rfl, rfl⟩

theorem pollAck_sameResult (s : State) : s.SameResult (pollAck s) := by
  have ho := pollAck_outcome s
  generalize pollAck s = t at ho
  cases ho <;> exact ⟨rfl, rfl⟩

theorem pollResp_sameCommand (s : State) : s.SameCommand (pollResp s) := by
  have ho := pollResp_outcome s
  generalize pollResp s = t at ho
  cases ho <;> exact ⟨rfl, rfl, rfl, rfl, rfl⟩

theorem tickState_eq (s : State) : ∃ e, tickState s = { s with elapsed := e } := by
  unfold tickState
  split
  · exact ⟨_, rfl⟩
  · exact ⟨s.elapsed, rfl⟩

theorem receive_sameCommand (b : Bytes) (s : State) : s.SameCommand (receive b s) := by
  have ho := receive_outcome b s
  generalize receive b s = t at ho
  cases ho with
  | ack => exact pollAck_sameCommand (s.present b)
  | resp => exact pollResp_sameCommand (s.present b)
  | held => exact ⟨rfl, rfl, rfl, rfl, rfl⟩

theorem receive_sameResult {s : State} (b : Bytes) (ht : s.txstate ≠ .responseWait) : s.SameResult (receive b s) := by
  have ho := receive_outcome b s
  generalize receive b s = t at ho
  cases ho with
  | ack => exact pollAck_sameResult (s.present b)
  | resp hd => exact absurd ((pollRespDue_iff s).1 hd).1 ht
  | held => exact ⟨rfl, rfl⟩

theorem startsTransaction_of_isMacro {i : Instr} (hi : i.isMacro = true) : i.startsTransaction = true := by
  cases i with
  | getfw | setup | list | pwrdown => rfl
  | _ => cases hi

/-- Settles O49: the instructions that issue no `START` are the codec functions, the polls, `TICK`, `WAKE` and the bytes from
the chip. -/
theorem onlyStartAndResetWriteCommand : Obligations.OnlyStartAndResetWriteCommand := by
  intro i s t hx hstart hreset
  cases exec_outcome hx with
  | returned | woken => exact ⟨⟨rfl, rfl, rfl, rfl, rfl⟩, fun _ => ⟨rfl, rfl⟩⟩
  | polledAck => exact ⟨pollAck_sameCommand s, fun _ => pollAck_sameResult s⟩
  | polledResp hd => exact ⟨pollResp_sameCommand s, fun ht => absurd ((pollRespDue_iff s).1 hd).1 ht⟩
  | ticked =>
    obtain ⟨e, he⟩ := tickState_eq s
    exact he ▸ ⟨⟨rfl, rfl, rfl, rfl, rfl⟩, fun _ => ⟨rfl, rfl⟩⟩
  | received b _ => exact ⟨receive_sameCommand b s, receive_sameResult b⟩
  | reset => exact absurd rfl hreset
  | started op p ta tr hi hr => rw [hi] at hstart; cases hstart
  | transacted op p ta tr r n hi hr => rw [startsTransaction_of_isMacro hi] at hstart; cases hstart
  | setUp => cases hstart

/-- Settles O34: every register of the table, and the trace, by the definition of the reset state. -/
theorem resetStateHasSpecValues : Obligations.ResetStateHasSpecValues :=
  ⟨rfl, rfl, rfl, rfl, rfl, rfl, rfl, rfl, rfl, rfl, rfl, rfl, rfl, rfl, rfl⟩

end Sys2Proof.Machine
end

section
/-! SUPPORT. The bus and its trace (20_memory.md): what an access records, how the trace grows, and which steps reach the
bus. -/

namespace Sys2Proof.Machine

/-! ### One access -/

/-- A free value is drawn when no answer is listed (log entry 2). -/
theorem ite_isEmpty_succ {α : Type} (answers : List α) (draws : Nat) :
    (if answers.isEmpty then draws + 1 else draws) = draws + (if answers = [] then 1 else 0) := by
  cases answers with
  | nil => rfl
  | cons => simp

theorem afterWrite_eq (s : State) (b : Bytes) :
    s.afterWrite b = { s with
      trace := s.trace ++ [.write s.params.i2cAddr b s.nextWrite]
      writeAns := s.writeAns.tail
      draws := s.draws + (if s.writeAns = [] then 1 else 0) } := by
  rw [← ite_isEmpty_succ]; rfl

theorem afterRead_eq (s : State) (n : Nat) :
    s.afterRead n = { s with
      trace := s.trace ++ [.read s.params.i2cAddr n (s.nextRead n)]
      readAns := s.readAns.tail
      draws := s.draws + (if s.readAns = [] then 1 else 0) } := by
  rw [← ite_isEmpty_succ]; rfl

/-- 20_memory.md R75: a listed answer within the length asked for is not clipped. -/
theorem nextRead_of_fits {s : State} {n : Nat} {buf : Bytes} {r : List ReadAnswer} (h : s.readAns = .ok buf :: r)
    (hn : buf.length ≤ n) : s.nextRead n = .ok buf := by
  rw [nextRead_of_cons n h, clipAnswer, List.take_of_length_le hn]

/-- Settles O15: both accesses by their equations, the answers by what the transport may give. -/
theorem busAccessRecordsItsEvent : Obligations.BusAccessRecordsItsEvent :=
  ⟨fun s b => ⟨afterWrite_eq s b, fun _ _ => nextWrite_of_cons⟩,
    fun s n => ⟨afterRead_eq s n, fun _ _ => nextRead_of_fits, fun _ _ => nextRead_of_cons n,
      fun _ => nextRead_length_le⟩⟩

/-! ### The growth of the trace -/

/-- The address that a bus event carries (20_memory.md R62). -/
def BusEvent.addr : BusEvent → BitVec 7
  | .write a _ _ => a
  | .read a _ _ => a

theorem BusEvent.eq_write_or_read (e : BusEvent) :
    (∃ b a, e = .write e.addr b a) ∨ (∃ n a, e = .read e.addr n a) := by
  cases e with
  | write _ b a => exact .inl ⟨b, a, rfl⟩
  | read _ n a => exact .inr ⟨n, a, rfl⟩

/-- From `s` to `t` the configuration and the pending events stay, and the trace grows at its end by events at the address
of `s` (20_memory.md R62, R69, R70, R72). -/
structure State.Extends (s t : State) : Prop where
  params : t.params = s.params
  pending : t.pending = s.pending
  trace : ∃ new, t.trace = s.trace ++ new ∧ ∀ e ∈ new, e.addr = s.params.i2cAddr

theorem State.Extends.refl (s : State) : s.Extends s := ⟨rfl, rfl, [], (List.append_nil _).symm, nofun⟩

/-- One more event, at the address of the state that makes the access. -/
theorem State.Extends.event {s t u : State} (h : s.Extends t) {e : BusEvent} (he : e.addr = t.params.i2cAddr)
    (hparams : u.params = t.params) (hpending : u.pending = t.pending) (htrace : u.trace = t.trace ++ [e]) :
    s.Extends u := by
  obtain ⟨hp, hq, new, hnew, haddr⟩ := h
  refine ⟨hparams.trans hp, hpending.trans hq, new ++ [e], by rw [htrace, hnew, List.append_assoc], ?_⟩
  intro e' he'
  rcases List.mem_append.1 he' with hold | hlast
  · exact haddr e' hold
  · rw [List.mem_singleton.1 hlast, he, hp]

theorem State.Extends.afterWrite {s t : State} (h : s.Extends t) (b : Bytes) : s.Extends (t.afterWrite b) :=
  h.event (e := .write t.params.i2cAddr b t.nextWrite) rfl rfl rfl rfl

theorem State.Extends.afterRead {s t : State} (h : s.Extends t) (n : Nat) : s.Extends (t.afterRead n) :=
  h.event (e := .read t.params.i2cAddr n (t.nextRead n)) rfl rfl rfl rfl

/-- Other fields may change freely. -/
theorem State.Extends.frame {s t u : State} (h : s.Extends t) (hparams : u.params = t.params)
    (hpending : u.pending = t.pending) (htrace : u.trace = t.trace) : s.Extends u :=
  ⟨hparams.trans h.params, hpending.trans h.pending, htrace ▸ h.trace⟩

theorem State.Extends.startTaken {s t : State} (h : s.Extends t) (op : Byte) (p : Bytes) (ta tr : Option Timer) :
    s.Extends (startTaken op p ta tr t) := by
  have hlatch : s.Extends (t.latchCommand op p ta tr) := h.frame rfl rfl rfl
  have ho := startTaken_outcome op p ta tr t
  generalize Machine.startTaken op p ta tr t = u at ho
  cases ho with
  | asleep => exact h.frame rfl rfl rfl
  | sent | writeError => exact (hlatch.afterWrite _).frame rfl rfl rfl

theorem State.Extends.pollAck {s t : State} (h : s.Extends t) : s.Extends (pollAck t) := by
  have hread := h.afterRead Config.ackReadLen
  have ho := pollAck_outcome t
  generalize Machine.pollAck t = u at ho
  cases ho with
  | resend | resendError => exact (hread.afterWrite t.txbuf).frame rfl rfl rfl
  | _ => exact hread.frame rfl rfl rfl

theorem State.Extends.pollResp {s t : State} (h : s.Extends t) : s.Extends (pollResp t) := by
  have hread := h.afterRead Config.respReadLen
  have ho := pollResp_outcome t
  generalize Machine.pollResp t = u at ho
  cases ho <;> exact hread.frame rfl rfl rfl

theorem State.Extends.tickState {s t : State} (h : s.Extends t) : s.Extends (tickState t) := by
  obtain ⟨e, he⟩ := tickState_eq t
  exact he ▸ h.frame rfl rfl rfl

theorem State.Extends.ownStep {s t : State} (h : s.Extends t) : s.Extends (ownStep t) := by
  have ho := ownStep_outcome t
  generalize Machine.ownStep t = u at ho
  cases ho with
  | ack => exact h.pollAck
  | resp => exact h.pollResp
  | tick => exact h.tickState

theorem State.Extends.transact {s t : State} (h : s.Extends t) (op : Byte) (p : Bytes) (ta tr : Option Timer) :
    s.Extends (transact op p ta tr t) :=
  runOwn_keeps (P := s.Extends) (fun _ _ => State.Extends.ownStep) _ _ (h.startTaken op p ta tr)

theorem State.Extends.receive {s t : State} (h : s.Extends t) (b : Bytes) : s.Extends (receive b t) := by
  have hpresent : s.Extends (t.present b) := h.frame rfl rfl rfl
  have ho := receive_outcome b t
  generalize Machine.receive b t = u at ho
  cases ho with
  | ack => exact hpresent.pollAck
  | resp => exact hpresent.pollResp
  | held => exact hpresent

theorem exec_extends {i : Instr} {s t : State} (hx : exec i s = .next t) : s.Extends t := by
  have h := State.Extends.refl s
  cases exec_outcome hx with
  | returned | woken | reset => exact h.frame rfl rfl rfl
  | started op p ta tr => exact h.startTaken op p ta tr
  | polledAck => exact h.pollAck
  | polledResp => exact h.pollResp
  | ticked => exact h.tickState
  | received b => exact h.receive b
  | transacted op p ta tr => exact (h.transact op p ta tr).frame rfl rfl rfl
  | setUp u r n hr hu =>
    have hfirst : s.Extends u := hu ▸ h.transact _ _ _ _
    exact (hfirst.transact _ _ _ _).frame rfl rfl rfl

/-- Settles O51: every instruction extends the trace, and an event at the address is a write or a read there. -/
theorem traceOnlyGrowsAndConfigurationStays : Obligations.TraceOnlyGrowsAndConfigurationStays := by
  intro i s t hx
  obtain ⟨hparams, hpending, new, htrace, haddr⟩ := exec_extends hx
  exact ⟨hparams, hpending, new, htrace, fun e he => haddr e he ▸ e.eq_write_or_read⟩

/-! ### Which steps reach the bus -/

/-- What is no `START`, no poll and no bytes from the chip stays off the bus. -/
theorem trace_eq_of_offBus {i : Instr} {s t : State} (hx : exec i s = .next t) (hstart : i.startsTransaction = false)
    (hwire : Sys2Proof.encode i = none) (hack : i ≠ .pollAck) (hresp : i ≠ .pollResp) : t.trace = s.trace := by
  cases exec_outcome hx with
  | returned | woken | reset => rfl
  | ticked =>
    obtain ⟨e, he⟩ := tickState_eq s
    rw [he]
  | polledAck => exact absurd rfl hack
  | polledResp => exact absurd rfl hresp
  | received b hi => rw [hwire] at hi; cases hi
  | started op p ta tr hi => rw [hstart] at hi; cases hi
  | transacted op p ta tr r n hi => rw [startsTransaction_of_isMacro hi] at hstart; cases hstart
  | setUp => cases hstart

theorem eq_pollAck_of_exec {s t : State} (hx : exec .pollAck s = .next t) : t = pollAck s := by
  cases exec_outcome hx with
  | polledAck => rfl
  | returned _ hi | started _ _ _ _ hi | received _ hi | transacted _ _ _ _ _ _ hi => cases hi

theorem eq_pollResp_of_exec {s t : State} (hx : exec .pollResp s = .next t) : t = pollResp s := by
  cases exec_outcome hx with
  | polledResp => rfl
  | returned _ hi | started _ _ _ _ hi | received _ hi | transacted _ _ _ _ _ _ hi => cases hi

/-- One read, and exactly when the poll takes the retry, one write of `TXBUF` after it (41_handshake.md R168). -/
theorem pollAck_trace (s : State) : ∃ a w,
    (pollAck s).trace = s.trace ++ .read s.params.i2cAddr 7 a :: w ∧
    (w = [] ∧ (pollAck s).retryLeft = s.retryLeft ∨
      s.retryLeft = true ∧ (pollAck s).retryLeft = false ∧ ∃ wa, w = [.write s.params.i2cAddr s.txbuf wa]) := by
  have ho := pollAck_outcome s
  generalize pollAck s = t at ho
  cases ho with
  | resend buf h hu ht hr | resendError buf info h hu ht hr =>
    exact ⟨_, _, List.append_assoc _ _ _, .inr ⟨hr, rfl, _, rfl⟩⟩
  | _ => exact ⟨_, [], rfl, .inl ⟨rfl, rfl⟩⟩

theorem pollResp_trace (s : State) : (pollResp s).trace = s.trace ++ [.read s.params.i2cAddr 263 (s.nextRead 263)] := by
  have ho := pollResp_outcome s
  generalize pollResp s = t at ho
  cases ho <;> rfl

theorem startTaken_trace_of_asleep {s : State} (op : Byte) (p : Bytes) (ta tr : Option Timer)
    (hd : s.devstate = .poweredDown) : (startTaken op p ta tr s).trace = s.trace := by
  simp [startTaken, (asleep_iff s).2 hd]

theorem startTaken_trace_of_awake {s : State} {p : Bytes} (op : Byte) (ta tr : Option Timer)
    (hd : s.devstate ≠ .poweredDown) (hp : p.length ≤ 252) :
    (startTaken op p ta tr s).trace = s.trace ++ [.write s.params.i2cAddr (wireFrame 0xD4 op p) s.nextWrite] := by
  rw [← infoFrameBytes_eq_wireFrame 0xD4 op (by omega)]
  have ho := startTaken_outcome op p ta tr s
  generalize startTaken op p ta tr s = t at ho
  cases ho with
  | asleep h => exact absurd h hd
  | sent | writeError => rfl

/-- Settles O50: the steps off the bus, both polls and `START`, each by what it leaves in the trace. -/
theorem busUseOfEachStep : Obligations.BusUseOfEachStep := by
  refine ⟨?_, ?_, ?_, ?_⟩
  · rintro i s t hx (⟨l, rfl⟩ | ⟨f, d, rfl⟩ | ⟨o, p, rfl⟩ | ⟨b, rfl⟩ | ⟨b, rfl⟩ | rfl | rfl | rfl) <;>
      exact trace_eq_of_offBus hx rfl rfl nofun nofun
  · intro s t hx
    exact eq_pollAck_of_exec hx ▸ pollAck_trace s
  · intro s t hx
    exact ⟨_, eq_pollResp_of_exec hx ▸ pollResp_trace s⟩
  · intro op p ta tr s t hx
    obtain ⟨hr, rfl⟩ := (startOp_eq_next_iff op p ta tr s t).1 hx
    obtain ⟨-, hp⟩ := (startRefusal_eq_none_iff p s).1 hr
    exact ⟨startTaken_trace_of_asleep op p ta tr,
      fun hd => ⟨_, startTaken_trace_of_awake op ta tr hd (hp.resolve_left hd)⟩⟩

end Sys2Proof.Machine
end

section
/-! SUPPORT. The bytes that `DECODE` accepts, and what the decoder of instructions makes of them: one relation between an
instruction and its bytes, `WireForm`, stands between `decode` and `encode` (30_encoding.md R91, R92, R119). -/

namespace Sys2Proof.Machine

/-! ### Reading a byte sequence by its indices -/

theorem drop_eq_byteAt_cons {b : Bytes} {i : Nat} (h : i < b.length) : b.drop i = byteAt b i :: b.drop (i + 1) := by
  rw [List.drop_eq_getElem_cons h, byteAt, List.getD_eq_getElem _ _ h]

theorem drop_eq_slice_append (b : Bytes) {i j : Nat} (h : i ≤ j) : b.drop i = slice b i j ++ b.drop j := by
  have hj : b.drop j = (b.drop i).drop (j - i) := by rw [List.drop_drop, Nat.add_sub_cancel' h]
  rw [hj, slice, List.take_append_drop]

theorem slice_eq_byteAt_cons {b : Bytes} {i j : Nat} (h : i < b.length) (hj : i < j) :
    slice b i j = byteAt b i :: slice b (i + 1) j := by
  have hn : j - i = j - (i + 1) + 1 := by omega
  rw [slice, drop_eq_byteAt_cons h, hn, List.take_succ_cons, slice]

theorem slice_length {b : Bytes} (i : Nat) {j : Nat} (h : j ≤ b.length) : (slice b i j).length = j - i := by
  rw [slice, List.length_take, List.length_drop]; omega

/-- A buffer long enough for a frame with `LEN = n`, cut where `DECODE` cuts it (40_framecodec.md R137). -/
theorem eq_header_append_slice {b : Bytes} {n : Nat} (hn : 2 ≤ n) (h : n + 7 ≤ b.length) :
    b = [byteAt b 0, byteAt b 1, byteAt b 2, byteAt b 3, byteAt b 4, byteAt b 5, byteAt b 6] ++ slice b 7 (5 + n) ++
      [byteAt b (5 + n), byteAt b (6 + n)] ++ b.drop (7 + n) := by
  have hhead : b.drop 0 =
      [byteAt b 0, byteAt b 1, byteAt b 2, byteAt b 3, byteAt b 4, byteAt b 5, byteAt b 6] ++ b.drop 7 := by
    rw [drop_eq_byteAt_cons (i := 0) (by omega), drop_eq_byteAt_cons (i := 1) (by omega),
      drop_eq_byteAt_cons (i := 2) (by omega), drop_eq_byteAt_cons (i := 3) (by omega),
      drop_eq_byteAt_cons (i := 4) (by omega), drop_eq_byteAt_cons (i := 5) (by omega),
      drop_eq_byteAt_cons (i := 6) (by omega)]
    rfl
  have hlast : b.drop (5 + n) = [byteAt b (5 + n), byteAt b (6 + n)] ++ b.drop (7 + n) := by
    rw [drop_eq_byteAt_cons (i := 5 + n) (by omega), show 5 + n + 1 = 6 + n by omega,
      drop_eq_byteAt_cons (i := 6 + n) (by omega), show 6 + n + 1 = 7 + n by omega]
    rfl
  calc b = b.drop 0 := rfl
    _ = _ := by rw [hhead, drop_eq_slice_append b (i := 7) (j := 5 + n) (by omega), hlast]; simp

/-! ### What `DECODE` accepts -/

/-- Bytes that decode are the frame of what they decode to and the bytes after its postamble (40_framecodec.md R137,
R139). -/
theorem eq_infoFrameBytes_append_of_decodeFrame {b : Bytes} {tfi op : Byte} {p : Bytes}
    (h : decodeFrame b = .ok tfi op p) : b = infoFrameBytes tfi op p ++ b.drop (p.length + 9) := by
  obtain ⟨-, h0, h1, h2, hlcs, hL, hlen, -, h5, h6, hdcs, hpost, hp⟩ := (decodeFrame_eq_ok_iff b tfi op p).1 h
  have hpl : p.length + 2 = (byteAt b 3).toNat := by
    rw [← hp, slice_length 7 (by omega)]; omega
  have h3 : byteAt b 3 = BitVec.ofNat 8 (p.length + 2) := by rw [hpl, BitVec.ofNat_toNat, BitVec.setWidth_eq]
  have hdata : slice b 5 (5 + (byteAt b 3).toNat) = tfi :: op :: p := by
    rw [slice_eq_byteAt_cons (by omega) (by omega), slice_eq_byteAt_cons (by omega) (by omega), h5, h6, hp]
  have hsum : byteAt b (5 + (byteAt b 3).toNat) = dcsOf tfi (op :: p) := by
    rw [hdata, completes_iff_eq_neg8] at hdcs
    exact hdcs
  have hcut := eq_header_append_slice hL hlen
  rw [h0, h1, h2, hlcs, h5, h6, hp, hsum, hpost, ← hpl, h3] at hcut
  rw [show p.length + 9 = 7 + (p.length + 2) by omega]
  simpa [infoFrameBytes] using hcut

/-- Settles O7: the eleven steps leave exactly the wire format, and a frame written out passes them. -/
theorem decodeAcceptsExactlyWireFrames : Obligations.DecodeAcceptsExactlyWireFrames := by
  intro b tfi op p
  constructor
  · intro h
    have hp := decodeFrame_payload_length_le h
    obtain ⟨-, -, -, -, -, -, -, ht, -⟩ := (decodeFrame_eq_ok_iff b tfi op p).1 h
    exact ⟨ht, hp, _, infoFrameBytes_eq_wireFrame tfi op hp ▸ eq_infoFrameBytes_append_of_decodeFrame h⟩
  · rintro ⟨ht, hp, t, rfl⟩
    exact decodeFrame_wireFrame_append tfi op p t ht hp

theorem decodeFrame_eq_unexpectedAck_iff (b : Bytes) : decodeFrame b = .unexpectedAck ↔ isAckBytes b = true := by
  unfold decodeFrame
  dsimp only
  split_ifs <;> simp_all

/-- The bytes that are rejected, with the name of the check (40_framecodec.md R138). -/
theorem decode_eq_error_iff (b : Bytes) (sub : ErrSub) : decode b = .error sub ↔ decodeFrame b = .malformed sub := by
  unfold decode
  cases decodeFrame b with
  | ok tfi op p => dsimp only; split <;> simp
  | unexpectedAck => simp
  | malformed e => simp

/-! ### Instructions and their bytes -/

/-- The information frame with the given fields as an instruction: a named one where the table has a name. -/
def frameInstr (tfi op : Byte) (p tail : Bytes) : Instr :=
  if tfi = Config.tfiH2C then commandInstr op p tail else responseInstr op p tail

/-- The frames as instructions and as bytes: the ACK (30_encoding.md R92) and the information frames (R91). -/
inductive WireForm : Instr → Bytes → Prop where
  | ack (tail : Bytes) : WireForm (.ackFrame tail) (ackSentinel ++ tail)
  | info (tfi op : Byte) (p tail : Bytes) (ht : tfi = 0xD4 ∨ tfi = 0xD5) (hp : p.length ≤ 253) :
      WireForm (frameInstr tfi op p tail) (infoFrameBytes tfi op p ++ tail)

theorem decode_ackSentinel_append (tail : Bytes) : decode (ackSentinel ++ tail) = .ok (.ackFrame tail) := by
  have hack : isAckBytes (ackSentinel ++ tail) = true := (isAckBytes_iff _).2 ⟨tail, rfl⟩
  rw [decode, (decodeFrame_eq_unexpectedAck_iff _).2 hack]
  rfl

theorem decode_of_decodeFrame_ok {b : Bytes} {tfi op : Byte} {p : Bytes} (h : decodeFrame b = .ok tfi op p) :
    decode b = .ok (frameInstr tfi op p (b.drop (p.length + 9))) := by
  rw [decode, h, frameInstr]
  dsimp only
  split <;> rfl

theorem decode_eq_ok_iff_wireForm (i : Instr) (b : Bytes) : decode b = .ok i ↔ WireForm i b := by
  constructor
  · intro h
    cases hd : decodeFrame b with
    | unexpectedAck =>
      obtain ⟨t, rfl⟩ := (isAckBytes_iff b).1 ((decodeFrame_eq_unexpectedAck_iff b).1 hd)
      rw [decode_ackSentinel_append] at h
      cases h
      exact .ack t
    | malformed sub =>
      rw [(decode_eq_error_iff b sub).2 hd] at h
      cases h
    | ok tfi op p =>
      rw [decode_of_decodeFrame_ok hd] at h
      cases h
      obtain ⟨ht, hp, -⟩ := (decodeAcceptsExactlyWireFrames b tfi op p).1 hd
      have hform := WireForm.info tfi op p (b.drop (p.length + 9)) ht hp
      rwa [← eq_infoFrameBytes_append_of_decodeFrame hd] at hform
  · rintro (⟨tail⟩ | ⟨tfi, op, p, tail, ht, hp⟩)
    · exact decode_ackSentinel_append tail
    · have hd : decodeFrame (infoFrameBytes tfi op p ++ tail) = .ok tfi op p :=
        infoFrameBytes_eq_wireFrame tfi op hp ▸ decodeFrame_wireFrame_append tfi op p tail ht hp
      rw [decode_of_decodeFrame_ok hd, List.drop_left' (infoFrameBytes_length tfi op p)]

theorem payloadFits_iff (p : Bytes) : payloadFits p = true ↔ p.length ≤ 253 := decide_eq_true_iff

theorem commandInstr_wf (op : Byte) (p tail : Bytes) : (commandInstr op p tail).wf = payloadFits p := by
  unfold commandInstr
  split_ifs
  case neg => simp_all [Instr.wf, tfiLegal, isNamedHeader]
  all_goals rfl

theorem responseInstr_wf (op : Byte) (p tail : Bytes) : (responseInstr op p tail).wf = payloadFits p := by
  unfold responseInstr
  split_ifs
  case neg => simp_all [Instr.wf, tfiLegal, isNamedHeader]
  all_goals rfl

theorem encode_commandInstr (op : Byte) (p tail : Bytes) :
    encode (commandInstr op p tail) = some (infoFrameBytes 0xD4 op p ++ tail) := by
  unfold commandInstr
  split_ifs <;> subst_vars <;> rfl

theorem encode_responseInstr (op : Byte) (p tail : Bytes) :
    encode (responseInstr op p tail) = some (infoFrameBytes 0xD5 op p ++ tail) := by
  unfold responseInstr
  split_ifs <;> subst_vars <;> rfl

/-- The generic information frame stands for every header that the table does not name (30_encoding.md R103, R104). -/
theorem frameInstr_of_not_named {tfi op : Byte} (p tail : Bytes) (ht : tfi = 0xD4 ∨ tfi = 0xD5)
    (hn : isNamedHeader tfi op = false) : frameInstr tfi op p tail = .infoFrame tfi op p tail := by
  rcases ht with rfl | rfl
  · simp [isNamedHeader] at hn
    simp [frameInstr, commandInstr, hn]
  · simp [isNamedHeader] at hn
    simp [frameInstr, responseInstr, hn]

/-- Every well-formed instruction that has bytes is a frame, and conversely. -/
theorem wf_encode_iff_wireForm (i : Instr) (b : Bytes) : (i.wf = true ∧ encode i = some b) ↔ WireForm i b := by
  constructor
  · rintro ⟨hwf, he⟩
    cases i with
    | ackFrame t => cases he; exact .ack t
    | infoFrame tfi op p t =>
      cases he
      simp only [Instr.wf, tfiLegal, Bool.and_eq_true, Bool.or_eq_true, beq_iff_eq, Bool.not_eq_true'] at hwf
      obtain ⟨⟨hp, ht⟩, hn⟩ := hwf
      exact frameInstr_of_not_named p t ht hn ▸ .info tfi op p t ht ((payloadFits_iff p).1 hp)
    | cmdGetFirmwareVersion p t => cases he; exact .info 0xD4 0x02 p t (.inl rfl) ((payloadFits_iff p).1 hwf)
    | cmdSAMConfiguration p t => cases he; exact .info 0xD4 0x14 p t (.inl rfl) ((payloadFits_iff p).1 hwf)
    | cmdPowerDown p t => cases he; exact .info 0xD4 0x16 p t (.inl rfl) ((payloadFits_iff p).1 hwf)
    | cmdRFConfiguration p t => cases he; exact .info 0xD4 0x32 p t (.inl rfl) ((payloadFits_iff p).1 hwf)
    | cmdInListPassiveTarget p t => cases he; exact .info 0xD4 0x4A p t (.inl rfl) ((payloadFits_iff p).1 hwf)
    | rspGetFirmwareVersion p t => cases he; exact .info 0xD5 0x03 p t (.inr rfl) ((payloadFits_iff p).1 hwf)
    | rspSAMConfiguration p t => cases he; exact .info 0xD5 0x15 p t (.inr rfl) ((payloadFits_iff p).1 hwf)
    | rspPowerDown p t => cases he; exact .info 0xD5 0x17 p t (.inr rfl) ((payloadFits_iff p).1 hwf)
    | rspRFConfiguration p t => cases he; exact .info 0xD5 0x33 p t (.inr rfl) ((payloadFits_iff p).1 hwf)
    | rspInListPassiveTarget p t => cases he; exact .info 0xD5 0x4B p t (.inr rfl) ((payloadFits_iff p).1 hwf)
    | _ => cases he
  · rintro (⟨tail⟩ | ⟨tfi, op, p, tail, rfl | rfl, hp⟩)
    · exact ⟨rfl, rfl⟩
    · exact ⟨(commandInstr_wf op p tail).trans ((payloadFits_iff p).2 hp), encode_commandInstr op p tail⟩
    · exact ⟨(responseInstr_wf op p tail).trans ((payloadFits_iff p).2 hp), encode_responseInstr op p tail⟩

/-- Settles O11: a well-formed instruction and its bytes are a frame, and a frame decodes. -/
theorem instrDecodeOfEncode : Obligations.InstrDecodeOfEncode :=
  fun i b hwf he => (decode_eq_ok_iff_wireForm i b).2 ((wf_encode_iff_wireForm i b).1 ⟨hwf, he⟩)

/-- Settles O12: what decodes is a frame, and a frame's instruction is well formed and has these bytes. -/
theorem instrEncodeOfDecode : Obligations.InstrEncodeOfDecode :=
  fun i b h => (wf_encode_iff_wireForm i b).2 ((decode_eq_ok_iff_wireForm i b).1 h)

/-- Settles O13: the decoder runs on the six words. -/
theorem specWordsDecode : Obligations.SpecWordsDecode := ⟨rfl, rfl, rfl, rfl, rfl, rfl⟩

end Sys2Proof.Machine
end

section
/-! SUPPORT. What the wire frames mean (log entries 6 and 7): a host-to-chip frame is the `START` of its command; bytes from
the chip are read by the poll that is due, behind a ready status byte, and what the poll does is said once per poll and
length. -/

namespace Sys2Proof.Machine

/-! ### Host-to-chip frames -/

theorem exec_of_commandOf {i : Instr} {op : Byte} {p : Bytes} (h : i.commandOf = some (op, p)) (s : State) :
    exec i s = startOp op p none none s := by
  cases i with
  | infoFrame tfi op' p' t =>
    obtain ⟨ht, hop⟩ := Option.ite_none_right_eq_some.1 h
    cases hop
    exact if_pos ht
  | cmdGetFirmwareVersion | cmdSAMConfiguration | cmdPowerDown | cmdRFConfiguration | cmdInListPassiveTarget =>
    cases h; rfl
  | _ => cases h

/-- `START` in a ready state with a payload in range and a write that succeeds (41_handshake.md R161). -/
theorem startOp_of_ready {s : State} {p : Bytes} (op : Byte) (ta tr : Option Timer) (hs : s.ready) (hp : p.length ≤ 252)
    (hw : s.nextWrite = .ok) :
    startOp op p ta tr s = .next ((s.latchCommand op p ta tr).afterWrite (infoFrameBytes 0xD4 op p)).enterAckWait := by
  obtain ⟨hbusy, hawake⟩ := hs
  rw [startOp_of_taken op ta tr ((startRefusal_eq_none_iff p s).2 ⟨hbusy, .inr hp⟩)]
  have ho := startTaken_outcome op p ta tr s
  generalize startTaken op p ta tr s = t at ho
  cases ho with
  | asleep hd => exact absurd hd hawake
  | sent => rfl
  | writeError info hd he => rw [hw] at he; cases he

/-- Settles O19: the frame runs as `START`, and `START` sends from a ready state. -/
theorem commandFrameRunsAsStart : Obligations.CommandFrameRunsAsStart := by
  intro i op p s hi
  have hx := exec_of_commandOf hi s
  refine ⟨hx, fun hs hp hw => ?_⟩
  rw [hx, startOp_of_ready op none none hs hp hw, ← infoFrameBytes_eq_wireFrame 0xD4 op (by omega)]
  rfl

/-! ### Bytes from the chip -/

/-- The status byte that the chip's next answer comes behind (20_memory.md R67; log entry 6). -/
def State.readyStatus (s : State) : Byte := Config.freeStatus s.draws ||| s.params.readyMask.val

theorem State.readyStatus_ready (s : State) : s.readyStatus &&& s.params.readyMask.val ≠ 0 :=
  or_and_self_ne_zero _ _ s.params.readyMask.2

/-- The state after a read of at most `n` bytes that hears `b` behind the ready status byte. -/
def State.heard (s : State) (n : Nat) (b : Bytes) : State :=
  { s with
    draws := s.draws + 1
    trace := s.trace ++ [.read s.params.i2cAddr n (.ok ((s.readyStatus :: b).take n))] }

@[simp] theorem State.heard_params (s : State) (n : Nat) (b : Bytes) : (s.heard n b).params = s.params := rfl

theorem pollAck_present (s : State) (b : Bytes) :
    pollAck (s.present b) = examineAck ((s.readyStatus :: b).take 7) (s.heard 7 b) := rfl

theorem pollResp_present (s : State) (b : Bytes) :
    pollResp (s.present b) = examineResp ((s.readyStatus :: b).take 263) (s.heard 263 b) := rfl

theorem receive_of_pollAckDue {s : State} (b : Bytes) (hd : s.pollAckDue = true) :
    receive b s = examineAck ((s.readyStatus :: b).take 7) (s.heard 7 b) :=
  (if_pos hd).trans (pollAck_present s b)

theorem receive_of_pollRespDue {s : State} (b : Bytes) (hd : s.pollRespDue = true) :
    receive b s = examineResp ((s.readyStatus :: b).take 263) (s.heard 263 b) := by
  have ha : ¬ s.pollAckDue = true := fun h => by simp [not_pollRespDue_of_pollAckDue h] at hd
  exact (if_neg ha).trans ((if_pos hd).trans (pollResp_present s b))

theorem receive_of_not_due {s : State} (b : Bytes) (ha : s.pollAckDue = false) (hr : s.pollRespDue = false) :
    receive b s = s.present b := by
  simp [receive, ha, hr]

theorem bufReady_readyStatus (s : State) (n : Nat) (b : Bytes) :
    bufReady s.params.readyMask.val ((s.readyStatus :: b).take (n + 1)) = true :=
  bne_iff_ne.2 s.readyStatus_ready

/-- Behind a ready status byte only the length decides (20_memory.md R68). -/
theorem ackUsable_readyStatus (s : State) (b : Bytes) :
    ackUsable s.params.readyMask.val ((s.readyStatus :: b).take 7) = decide (6 ≤ b.length) := by
  rw [ackUsable, bufReady_readyStatus s 6 b, Bool.and_true, decide_eq_decide, List.length_take, List.length_cons,
    Config.ackReadLen]
  omega

theorem respUsable_readyStatus (s : State) (b : Bytes) :
    respUsable s.params.readyMask.val ((s.readyStatus :: b).take 263) = decide (9 ≤ b.length) := by
  rw [respUsable, bufReady_readyStatus s 262 b, Bool.and_true, decide_eq_decide, List.length_take, List.length_cons,
    Config.minFrame]
  omega

/-- The ACK poll that hears six bytes or more compares the first six (41_handshake.md R164). -/
theorem receive_by_ackPoll {s : State} {b : Bytes} (hd : s.pollAckDue = true) (hb : 6 ≤ b.length) :
    receive b s = if isAckBytes b then (s.heard 7 b).enterResponseWait else (s.heard 7 b).raise .ackMismatch := by
  have hsix : isAckBytes (slice ((s.readyStatus :: b).take 7) 1 7) = isAckBytes b := by
    simp [slice, isAckBytes, Config.ackLen, List.take_take]
  rw [receive_of_pollAckDue b hd, examineAck, State.heard_params, ackUsable_readyStatus, hsix]
  simp [hb]

theorem receive_short_by_ackPoll {s : State} {b : Bytes} (hd : s.pollAckDue = true) (hb : b.length < 6) :
    receive b s = notReadyAck (s.heard 7 b) := by
  rw [receive_of_pollAckDue b hd, examineAck, State.heard_params, ackUsable_readyStatus]
  simp [hb]

/-- The response poll that hears nine bytes or more decodes them (41_handshake.md R173, R174). -/
theorem receive_by_respPoll {s : State} {b : Bytes} (hd : s.pollRespDue = true) (hb : 9 ≤ b.length) :
    receive b s = checkResponse (decodeFrame b) (s.heard 263 b) := by
  rw [receive_of_pollRespDue b hd, examineResp, State.heard_params, respUsable_readyStatus,
    List.take_succ_cons, List.drop_one, List.tail_cons, decodeFrame_take_maxFrame]
  simp [hb]

theorem receive_short_by_respPoll {s : State} {b : Bytes} (hd : s.pollRespDue = true) (hb : b.length < 9) :
    receive b s = notReadyResp (s.heard 263 b) := by
  rw [receive_of_pollRespDue b hd, examineResp, State.heard_params, respUsable_readyStatus]
  simp [hb]

/-! ### Chip-to-host frames -/

theorem exec_of_responseOf {i : Instr} {op : Byte} {p tail : Bytes} (h : i.responseOf = some (op, p, tail))
    (hp : p.length ≤ 253) (s : State) : exec i s = .next (receive (wireFrame 0xD5 op p ++ tail) s) := by
  rw [← infoFrameBytes_eq_wireFrame 0xD5 op hp]
  cases i with
  | infoFrame tfi op' p' t =>
    obtain ⟨rfl, hop⟩ := Option.ite_none_right_eq_some.1 h
    cases hop
    rfl
  | rspGetFirmwareVersion | rspSAMConfiguration | rspPowerDown | rspRFConfiguration | rspInListPassiveTarget =>
    cases h; rfl
  | _ => cases h

/-- A frame from the chip is correlated with the command, or fails the transaction (41_handshake.md R175, R176). -/
theorem checkResponse_ok (op : Byte) (p : Bytes) (s : State) :
    checkResponse (.ok 0xD5 op p) s = if op = s.cmdOpcode + 1 then complete op p s else s.raise .opcodeMismatch :=
  ite_not _ _ _

/-- Settles O35: the due poll decodes the frame, and the opcode decides. -/
theorem responseFrameReadByDuePoll : Obligations.ResponseFrameReadByDuePoll := by
  intro i op p tail s hi hp hd
  have hlen : 9 ≤ (wireFrame 0xD5 op p ++ tail).length := by simp [wireFrame]; omega
  have hx : exec i s = .next (if op = s.cmdOpcode + 1 then complete op p (s.heard 263 (wireFrame 0xD5 op p ++ tail))
      else (s.heard 263 (wireFrame 0xD5 op p ++ tail)).raise .opcodeMismatch) := by
    rw [exec_of_responseOf hi hp, receive_by_respPoll hd hlen, decodeFrame_wireFrame_append _ _ _ _ (.inr rfl) hp,
      checkResponse_ok]
    rfl
  refine ⟨s.readyStatus, s.readyStatus_ready, fun hop => ?_, fun hop => ?_⟩
  · rw [hx, if_pos hop]; rfl
  · rw [hx, if_neg hop]; rfl

/-! ### Bytes that are no frame -/

theorem notReadyAck_of_lt {s : State} (h : s.elapsed.toNat < s.tAck.toNat) : notReadyAck s = s.schedulePoll s.tAck :=
  if_pos h

theorem notReadyAck_of_le {s : State} (h : s.tAck.toNat ≤ s.elapsed.toNat) : notReadyAck s = ackDeadline s :=
  if_neg (Nat.not_lt.2 h)

theorem notReadyResp_of_lt {s : State} (h : s.elapsed.toNat < s.tResp.toNat) : notReadyResp s = s.schedulePoll s.tResp :=
  if_pos h

theorem notReadyResp_of_le {s : State} (h : s.tResp.toNat ≤ s.elapsed.toNat) :
    notReadyResp s = s.raise .responseTimeout :=
  if_neg (Nat.not_lt.2 h)

theorem ackDeadline_of_no_retry {s : State} (h : s.retryLeft = false) : ackDeadline s = s.raise .ackTimeout := by
  simp [ackDeadline, h]

theorem ackDeadline_of_resend {s : State} (h : s.retryLeft = true) (hw : s.nextWrite = .ok) :
    ackDeadline s = { s.afterWrite s.txbuf with retryLeft := false, elapsed := 0, nextpoll := 0 } := by
  simp [ackDeadline, h, hw]

theorem ackDeadline_of_resendError {s : State} {info : Nat} (h : s.retryLeft = true) (hw : s.nextWrite = .ioErr info) :
    ackDeadline s = ({ s.afterWrite s.txbuf with retryLeft := false } : State).raise (.ioError info) := by
  simp [ackDeadline, h, hw]

theorem isAckBytes_false_of_malformed {b : Bytes} {sub : ErrSub} (h : decodeFrame b = .malformed sub) :
    isAckBytes b = false := by
  rw [Bool.eq_false_iff, Ne, ← decodeFrame_eq_unexpectedAck_iff, h]
  nofun

/-- The state with the given events still to come: what a step runs in, once its event is taken from the queue. -/
def State.withQueue (s : State) (q : List Input) : State := { s with pending := q }

theorem step_of_undecoded {s : State} {b : Bytes} {rest : List Input} {sub : ErrSub} (hq : s.pending = .wire b :: rest)
    (hb : decode b = .error sub) : step s = .next (receive b (s.withQueue rest)) := by
  simp [step, fetch, hq, readInput, hb, State.withQueue]

/-- Settles O39: each poll that is due by the length of what it hears and the time, and no poll. -/
theorem undecodedBytesReadByDuePoll : Obligations.UndecodedBytesReadByDuePoll := by
  intro s b rest sub hq hb
  have hd : decodeFrame b = .malformed sub := (decode_eq_error_iff b sub).1 hb
  have hstep {t : State} (ht : receive b (s.withQueue rest) = t) : step s = .next t := ht ▸ step_of_undecoded hq hb
  refine ⟨s.readyStatus, s.readyStatus_ready, fun (hdue : (s.withQueue rest).pollAckDue = true) => ⟨?_, ?_, ?_⟩,
    fun (hdue : (s.withQueue rest).pollRespDue = true) => ⟨?_, ?_, ?_⟩, ?_⟩
  · intro hlen
    refine hstep ((receive_by_ackPoll hdue hlen).trans ?_)
    rw [isAckBytes_false_of_malformed hd]
    rfl
  · intro hlen ht
    have hwait := (receive_short_by_ackPoll hdue hlen).trans (notReadyAck_of_lt ht)
    exact ⟨_, schedulePoll_nextpoll_toNat _ _, hstep hwait⟩
  · intro hlen ht
    have hdeadline := (receive_short_by_ackPoll hdue hlen).trans (notReadyAck_of_le ht)
    exact ⟨fun hr => hstep (hdeadline.trans (ackDeadline_of_no_retry hr)),
      fun hr hw => hstep (hdeadline.trans (ackDeadline_of_resend hr hw)),
      fun _ hr hw => hstep (hdeadline.trans (ackDeadline_of_resendError hr hw))⟩
  · intro hlen
    refine hstep ((receive_by_respPoll hdue hlen).trans ?_)
    rw [hd]
    rfl
  · intro hlen ht
    have hwait := (receive_short_by_respPoll hdue hlen).trans (notReadyResp_of_lt ht)
    exact ⟨_, schedulePoll_nextpoll_toNat _ _, hstep hwait⟩
  · intro hlen ht
    exact hstep ((receive_short_by_respPoll hdue hlen).trans (notReadyResp_of_le ht))
  · intro ha hr
    exact hstep (receive_of_not_due (s := s.withQueue rest) b ha hr)

end Sys2Proof.Machine
end

section
/-! SUPPORT. The codec functions as operations of the block (40_framecodec.md R130 to R135): each completes with its value
and touches nothing else, and the laws of both checksums, of `ENCODE` and of `IS_ACK`. -/

namespace Sys2Proof.Machine

/-! ### Running a codec function -/

/-- A codec function completes with its value on the result port. -/
theorem exec_of_codecResult {i : Instr} {r : Result} (h : codecResult i = some r) (s : State) :
    exec i s = .next (s.returning r) := by
  cases i with
  | lcs | dcs | isAck | decode => cases h; rfl
  | encode op p =>
    obtain ⟨f, hf, rfl⟩ := Option.map_eq_some_iff.1 h
    change execEncode op p s = _
    rw [execEncode, hf]
  | _ => cases h

/-! ### The checksums -/

theorem neg8_eq_neg8_iff (x y : Nat) : neg8 x = neg8 y ↔ x % 256 = y % 256 := by
  rw [← BitVec.toNat_inj, neg8_toNat, neg8_toNat]
  omega

theorem sumBytes_perm {d e : Bytes} (h : d.Perm e) : sumBytes d = sumBytes e :=
  (h.map BitVec.toNat).sum_nat

/-- Writing one byte exchanges its summand. -/
theorem sumBytes_set (v : Byte) {d : Bytes} {i : Nat} (h : i < d.length) :
    sumBytes (d.set i v) + (byteAt d i).toNat = sumBytes d + v.toNat := by
  induction d generalizing i with
  | nil => simp at h
  | cons x d ih =>
    cases i with
    | zero => simp [byteAt]; omega
    | succ i =>
      have := ih (i := i) (by simpa using h)
      simp only [List.set_cons_succ, sumBytes_cons, byteAt, List.getD_cons_succ] at this ⊢
      omega

/-- A change of exactly one byte changes the sum modulo 256 (40_framecodec.md R131). -/
theorem sumBytes_set_mod_ne {v : Byte} {d : Bytes} {i : Nat} (h : i < d.length) (hv : v ≠ byteAt d i) :
    sumBytes (d.set i v) % 256 ≠ sumBytes d % 256 := by
  have hset := sumBytes_set v h
  have hne : v.toNat ≠ (byteAt d i).toNat := fun he => hv (BitVec.eq_of_toNat_eq he)
  have := v.isLt
  have := (byteAt d i).isLt
  omega

/-- Settles O1: `LCS` returns `neg8`, the one byte that completes the sum. -/
theorem lcsReturnsTwosComplement : Obligations.LcsReturnsTwosComplement := by
  intro len s
  refine ⟨lcsOf len, exec_of_codecResult rfl s, ?_, completes_iff_eq_neg8 len.toNat⟩
  rw [lcsOf, neg8_toNat, Nat.mod_eq_of_lt len.isLt]

/-- Settles O2: `DCS` returns `neg8` of a sum that no order changes and that every change of one byte does. -/
theorem dcsReturnsTwosComplementOfSum : Obligations.DcsReturnsTwosComplementOfSum := by
  refine ⟨fun tfi data s => ?_, fun tfi d e h => ?_, fun tfi d i v hi hv heq => ?_⟩
  · exact ⟨dcsOf tfi data, exec_of_codecResult rfl s, rfl, neg8_toNat _, completes_iff_eq_neg8 _⟩
  · rw [dcsOf, dcsOf, sumBytes_perm h]
  · rw [dcsOf, dcsOf, neg8_eq_neg8_iff] at heq
    exact sumBytes_set_mod_ne hi hv (by omega)

/-! ### `ENCODE` -/

theorem encodeFrame_eq_some_iff (op : Byte) (p f : Bytes) :
    encodeFrame op p = some f ↔ p.length ≤ 252 ∧ wireFrame Config.tfiH2C op p = f := by
  by_cases h : p.length ≤ 252
  · simp [encodeFrame_of_le op h, h]
  · simp [encodeFrame_of_gt op (Nat.not_le.1 h), h]

/-- Settles O3: the value of `ENCODE` in range, its refusal above. -/
theorem encodeReturnsFrameOrRefuses : Obligations.EncodeReturnsFrameOrRefuses := by
  intro op p s
  refine ⟨fun h => exec_of_codecResult ?_ s, fun h => ?_⟩
  · rw [codecResult, encodeFrame_of_le op h]; rfl
  · change execEncode op p s = _
    rw [execEncode, encodeFrame_of_gt op h]

/-- Settles O8: an encoded frame is a wire frame, and that decodes whatever follows it. -/
theorem decodeOfEncodeRoundTrips : Obligations.DecodeOfEncodeRoundTrips := fun op p t h =>
  ⟨_, encodeFrame_of_le op h, decodeFrame_wireFrame_append Config.tfiH2C op p t (.inl rfl) (by omega)⟩

/-- A frame of the wire format decodes (40_framecodec.md R140). -/
theorem decodeFrame_wireFrame {tfi : Byte} (op : Byte) {p : Bytes} (ht : tfi = 0xD4 ∨ tfi = 0xD5) (hp : p.length ≤ 253) :
    decodeFrame (wireFrame tfi op p) = .ok tfi op p := by
  simpa using decodeFrame_wireFrame_append tfi op p [] ht hp

/-- Settles O4: what decodes is no ACK, and the one decoding of a frame gives back its command. -/
theorem encodedFrameProperties : Obligations.EncodedFrameProperties := by
  intro op p hp
  have hdec {op' : Byte} {p' : Bytes} (hp' : p'.length ≤ 252) :
      decodeFrame (wireFrame Config.tfiH2C op' p') = .ok Config.tfiH2C op' p' :=
    decodeFrame_wireFrame op' (.inl rfl) (by omega)
  refine ⟨_, encodeFrame_of_le op hp, by simp [wireFrame], hdec hp, ?_, fun op' p' h => ?_⟩
  · exact ((decodeFrame_eq_ok_iff _ _ _ _).1 (hdec hp)).1
  · obtain ⟨hp', hf⟩ := (encodeFrame_eq_some_iff op' p' _).1 h
    have hsame := (hdec hp').symm.trans (hf ▸ hdec hp)
    simpa using hsame

/-! ### The ACK -/

theorem isAckBytes_iff_exists_append (b : Bytes) : isAckBytes b = true ↔ ∃ t, b = ackSentinel ++ t := by
  rw [isAckBytes_iff]
  exact exists_congr fun t => eq_comm

/-- Settles O5: `IS_ACK` returns whether the bytes begin with the sentinel. -/
theorem isAckReturnsSentinelMatch : Obligations.IsAckReturnsSentinelMatch := fun b s =>
  ⟨isAckBytes b, exec_of_codecResult rfl s, isAckBytes_iff_exists_append b⟩

/-- Settles O10: the first step of `DECODE` answers for the sentinel, and a wire frame decodes to something else. -/
theorem ackNeverDecodesAsDataFrame : Obligations.AckNeverDecodesAsDataFrame := by
  refine ⟨fun t => ?_, by decide, rfl, fun tfi op p t ht hp => ?_⟩
  · exact (decodeFrame_eq_unexpectedAck_iff _).2 ((isAckBytes_iff_exists_append _).2 ⟨t, rfl⟩)
  · rw [decodeFrame_wireFrame_append tfi op p t ht hp]
    nofun

end Sys2Proof.Machine
end

section
/-! SUPPORT. The steps of `DECODE` as a ladder (40_framecodec.md R137): each rung adds one check to the rungs below it,
and the check of the first rung missed names the result. A change of one byte of a valid frame (R141) keeps the rungs
below the check that reads the byte, and misses that one. -/

namespace Sys2Proof.Machine

/-! ### The ladder -/

/-- Steps 1 and 2: no ACK, and long enough for the shortest frame. -/
abbrev SizeOk (b : Bytes) : Prop := ¬ ackSentinel <+: b ∧ 9 ≤ b.length

/-- Step 3. -/
abbrev PreambleOk (b : Bytes) : Prop := SizeOk b ∧ byteAt b 0 = 0x00

/-- Step 4. -/
abbrev StartCodeOk (b : Bytes) : Prop := PreambleOk b ∧ byteAt b 1 = 0x00 ∧ byteAt b 2 = 0xFF

/-- Step 5. -/
abbrev LcsOk (b : Bytes) : Prop := StartCodeOk b ∧ ((byteAt b 3).toNat + (byteAt b 4).toNat) % 256 = 0

/-- Step 6. -/
abbrev LenOk (b : Bytes) : Prop := LcsOk b ∧ 2 ≤ (byteAt b 3).toNat

/-- Step 7. -/
abbrev Complete (b : Bytes) : Prop := LenOk b ∧ (byteAt b 3).toNat + 7 ≤ b.length

/-- Step 8. -/
abbrev TfiOk (b : Bytes) : Prop := Complete b ∧ (byteAt b 5 = 0xD4 ∨ byteAt b 5 = 0xD5)

/-- Step 9. -/
abbrev DcsOk (b : Bytes) : Prop :=
  TfiOk b ∧
    (sumBytes ((b.drop 5).take (byteAt b 3).toNat) + (byteAt b (5 + (byteAt b 3).toNat)).toNat) % 256 = 0

/-- Step 10. -/
abbrev PostambleOk (b : Bytes) : Prop := DcsOk b ∧ byteAt b (6 + (byteAt b 3).toNat) = 0x00

theorem isAckBytes_eq_false_iff (b : Bytes) : isAckBytes b = false ↔ ¬ ackSentinel <+: b := by
  rw [Bool.eq_false_iff, Ne, isAckBytes_iff]

theorem slice_five (b : Bytes) (L : Nat) : slice b 5 (5 + L) = (b.drop 5).take L := by
  rw [slice, Nat.add_sub_cancel_left]

theorem slice_seven (b : Bytes) (L : Nat) : slice b 7 (5 + L) = (b.drop 7).take (L - 2) := by
  rw [slice, show 5 + L - 7 = L - 2 by omega]

/-! ### The first rung missed gives the result -/

/-- The checks of the decoder in their order, each said as the condition that the rungs add. -/
theorem decodeFrame_eq_checks (b : Bytes) : decodeFrame b =
    if ackSentinel <+: b then .unexpectedAck
    else if ¬ 9 ≤ b.length then .malformed .tooShort
    else if ¬ byteAt b 0 = 0x00 then .malformed .badPreamble
    else if ¬ (byteAt b 1 = 0x00 ∧ byteAt b 2 = 0xFF) then .malformed .badStartCode
    else if ¬ ((byteAt b 3).toNat + (byteAt b 4).toNat) % 256 = 0 then .malformed .badLcs
    else if ¬ 2 ≤ (byteAt b 3).toNat then .malformed .tooShort
    else if ¬ (byteAt b 3).toNat + 7 ≤ b.length then .malformed .truncated
    else if ¬ (byteAt b 5 = 0xD4 ∨ byteAt b 5 = 0xD5) then .malformed .badTfi
    else if ¬ (sumBytes ((b.drop 5).take (byteAt b 3).toNat) + (byteAt b (5 + (byteAt b 3).toNat)).toNat) % 256 = 0 then
      .malformed .badDcs
    else if ¬ byteAt b (6 + (byteAt b 3).toNat) = 0x00 then .malformed .badPostamble
    else .ok (byteAt b 5) (byteAt b 6) ((b.drop 7).take ((byteAt b 3).toNat - 2)) := by
  simp only [decodeFrame, isAckBytes_iff, slice_five, slice_seven, not_le, not_and_or, not_or, ne_eq]

theorem decodeFrame_of_short {b : Bytes} (ha : ¬ ackSentinel <+: b) (hn : ¬ 9 ≤ b.length) :
    decodeFrame b = .malformed .tooShort := by
  simp only [decodeFrame_eq_checks, ha, hn, not_false_iff, if_true, if_false]

theorem decodeFrame_of_badPreamble {b : Bytes} (h : SizeOk b) (hn : byteAt b 0 ≠ 0x00) :
    decodeFrame b = .malformed .badPreamble := by
  simp only [decodeFrame_eq_checks, h, hn, not_true, not_false_iff, if_true, if_false]

theorem decodeFrame_of_badStartCode {b : Bytes} (h : PreambleOk b)
    (hn : ¬ (byteAt b 1 = 0x00 ∧ byteAt b 2 = 0xFF)) : decodeFrame b = .malformed .badStartCode := by
  simp only [decodeFrame_eq_checks, h, hn, not_true, not_false_iff, if_true, if_false]

theorem decodeFrame_of_badLcs {b : Bytes} (h : StartCodeOk b)
    (hn : ((byteAt b 3).toNat + (byteAt b 4).toNat) % 256 ≠ 0) : decodeFrame b = .malformed .badLcs := by
  simp only [decodeFrame_eq_checks, h, hn, and_self, not_true, not_false_iff, if_true, if_false]

theorem decodeFrame_of_shortLen {b : Bytes} (h : LcsOk b) (hn : ¬ 2 ≤ (byteAt b 3).toNat) :
    decodeFrame b = .malformed .tooShort := by
  simp only [decodeFrame_eq_checks, h, hn, and_self, not_true, not_false_iff, if_true, if_false]

theorem decodeFrame_of_truncated {b : Bytes} (h : LenOk b) (hn : ¬ (byteAt b 3).toNat + 7 ≤ b.length) :
    decodeFrame b = .malformed .truncated := by
  simp only [decodeFrame_eq_checks, h, hn, and_self, not_true, not_false_iff, if_true, if_false]

theorem decodeFrame_of_badTfi {b : Bytes} (h : Complete b) (hn : ¬ (byteAt b 5 = 0xD4 ∨ byteAt b 5 = 0xD5)) :
    decodeFrame b = .malformed .badTfi := by
  simp only [decodeFrame_eq_checks, h, hn, and_self, not_true, not_false_iff, if_true, if_false]

theorem decodeFrame_of_badDcs {b : Bytes} (h : TfiOk b)
    (hn : (sumBytes ((b.drop 5).take (byteAt b 3).toNat) + (byteAt b (5 + (byteAt b 3).toNat)).toNat) % 256 ≠ 0) :
    decodeFrame b = .malformed .badDcs := by
  simp only [decodeFrame_eq_checks, h, hn, and_self, not_true, not_false_iff, if_true, if_false]

theorem decodeFrame_of_badPostamble {b : Bytes} (h : DcsOk b) (hn : byteAt b (6 + (byteAt b 3).toNat) ≠ 0x00) :
    decodeFrame b = .malformed .badPostamble := by
  simp only [decodeFrame_eq_checks, h, hn, and_self, not_true, not_false_iff, if_true, if_false]

theorem decodeFrame_of_postambleOk {b : Bytes} (h : PostambleOk b) :
    decodeFrame b = .ok (byteAt b 5) (byteAt b 6) ((b.drop 7).take ((byteAt b 3).toNat - 2)) := by
  simp only [decodeFrame_eq_checks, h, and_self, not_true, if_false]

/-- Settles O6: the rungs are the statement's own nested steps. -/
theorem decodeReportsFirstStepThatFires : Obligations.DecodeReportsFirstStepThatFires := by
  intro b s
  refine ⟨decodeFrame b, exec_of_codecResult rfl s,
    fun h => (decodeFrame_eq_unexpectedAck_iff b).2 ((isAckBytes_iff b).2 h),
    fun ⟨h, hn⟩ => decodeFrame_of_short h hn.not_ge,
    fun ⟨h, hn⟩ => decodeFrame_of_badPreamble h fun hc => hn ⟨h, hc⟩,
    fun ⟨h, hn⟩ => decodeFrame_of_badStartCode h fun hc => hn ⟨h, hc⟩,
    fun ⟨h, hn⟩ => decodeFrame_of_badLcs h fun hc => hn ⟨h, hc⟩,
    fun ⟨h, hn⟩ => decodeFrame_of_shortLen h fun hc => hn ⟨h, hc⟩,
    fun ⟨h, hn⟩ => decodeFrame_of_truncated h fun hc => hn ⟨h, hc⟩,
    fun ⟨h, hn⟩ => decodeFrame_of_badTfi h fun hc => hn ⟨h, hc⟩,
    fun ⟨h, hn⟩ => decodeFrame_of_badDcs h fun hc => hn ⟨h, hc⟩,
    fun ⟨h, hn⟩ => decodeFrame_of_badPostamble h fun hc => hn ⟨h, hc⟩,
    decodeFrame_of_postambleOk⟩

/-! ### One byte changed -/

theorem byteAt_set_ne {i j : Nat} (b : Bytes) (v : Byte) (h : i ≠ j) : byteAt (b.set i v) j = byteAt b j := by
  rw [byteAt, byteAt, List.getD_eq_getElem?_getD, List.getElem?_set_ne h, ← List.getD_eq_getElem?_getD]

theorem byteAt_set_self {i : Nat} {b : Bytes} (v : Byte) (h : i < b.length) : byteAt (b.set i v) i = v := by
  simp [byteAt, h]

/-- Bytes that decode have climbed the whole ladder. -/
theorem postambleOk_of_decodeFrame {b : Bytes} {tfi op : Byte} {p : Bytes} (h : decodeFrame b = .ok tfi op p) :
    PostambleOk b := by
  obtain ⟨hack, h0, h1, h2, hlcs, hlen, hfit, htfi, rfl, -, hdcs, hpost, -⟩ := (decodeFrame_eq_ok_iff b tfi op p).1 h
  rw [slice_five] at hdcs
  have hstart : StartCodeOk b := ⟨⟨⟨(isAckBytes_eq_false_iff b).1 hack, by omega⟩, h0⟩, h1, h2⟩
  have hcomplete : Complete b := ⟨⟨⟨hstart, (completes_iff_eq_neg8 _ _).2 hlcs⟩, hlen⟩, hfit⟩
  exact ⟨⟨⟨hcomplete, htfi⟩, hdcs⟩, hpost⟩

theorem PostambleOk.complete {b : Bytes} (h : PostambleOk b) : Complete b := by
  obtain ⟨⟨⟨hc, -⟩, -⟩, -⟩ := h
  exact hc

/-- The two bytes of the sentinel at the indices of LEN and LCS. -/
theorem ackSentinel_bytes {b : Bytes} (h : ackSentinel <+: b) : byteAt b 3 = 0x00 ∧ byteAt b 4 = 0xFF := by
  obtain ⟨t, rfl⟩ := h
  exact ⟨rfl, rfl⟩

/-- No change of one byte makes an ACK of a frame: LEN is 2 or more, so both LEN and LCS would have to change
(40_framecodec.md R141). -/
theorem sizeOk_set {b : Bytes} (h : Complete b) (i : Nat) (v : Byte) : SizeOk (b.set i v) := by
  obtain ⟨⟨⟨-, hlcs⟩, hlen⟩, hfit⟩ := h
  refine ⟨fun hack => ?_, by rw [List.length_set]; omega⟩
  obtain ⟨h3, h4⟩ := ackSentinel_bytes hack
  by_cases hi : i = 3
  · rw [byteAt_set_ne b v (by omega)] at h4
    rw [h4] at hlcs
    have : (0xFF : Byte).toNat = 255 := rfl
    have := (byteAt b 3).isLt
    omega
  · rw [byteAt_set_ne b v hi] at h3
    rw [h3] at hlen
    exact absurd hlen (by decide)

theorem preambleOk_set {b : Bytes} (h : Complete b) {i : Nat} (v : Byte) (hi : 1 ≤ i) : PreambleOk (b.set i v) := by
  have hsize := sizeOk_set h i v
  obtain ⟨⟨⟨⟨⟨-, h0⟩, -⟩, -⟩, -⟩, -⟩ := h
  exact ⟨hsize, by rwa [byteAt_set_ne b v (by omega)]⟩

theorem startCodeOk_set {b : Bytes} (h : Complete b) {i : Nat} (v : Byte) (hi : 3 ≤ i) : StartCodeOk (b.set i v) := by
  have hpre := preambleOk_set h v (by omega : 1 ≤ i)
  obtain ⟨⟨⟨⟨-, h12⟩, -⟩, -⟩, -⟩ := h
  exact ⟨hpre, by rwa [byteAt_set_ne b v (by omega), byteAt_set_ne b v (by omega)]⟩

theorem complete_set {b : Bytes} (h : Complete b) {i : Nat} (v : Byte) (hi : 5 ≤ i) : Complete (b.set i v) := by
  have hstart := startCodeOk_set h v (by omega : 3 ≤ i)
  obtain ⟨⟨⟨-, hlcs⟩, hlen⟩, hfit⟩ := h
  have h3 := byteAt_set_ne b v (by omega : i ≠ 3)
  exact ⟨⟨⟨hstart, by rwa [h3, byteAt_set_ne b v (by omega)]⟩, by rwa [h3]⟩, by rwa [h3, List.length_set]⟩

/-- What step 9 sums is the window from TFI to DCS. -/
theorem sumBytes_window {b : Bytes} {L : Nat} (h : 5 + L < b.length) :
    sumBytes ((b.drop 5).take L) + (byteAt b (5 + L)).toNat = sumBytes ((b.drop 5).take (L + 1)) := by
  rw [List.take_succ_eq_append_getElem (by rw [List.length_drop]; omega), List.getElem_drop, sumBytes_append, byteAt,
    List.getD_eq_getElem _ _ h]
  simp

theorem window_set (b : Bytes) {i : Nat} (v : Byte) (n : Nat) (hi : 5 ≤ i) :
    ((b.set i v).drop 5).take n = ((b.drop 5).take n).set (i - 5) v := by
  rw [List.drop_set, if_neg (by omega), List.take_set]

/-- Every change of one byte from TFI to DCS breaks step 9 (40_framecodec.md R131, R141). -/
theorem windowSum_set_ne {b : Bytes} {L i : Nat} {v : Byte} (h : 5 + L < b.length)
    (hsum : (sumBytes ((b.drop 5).take L) + (byteAt b (5 + L)).toNat) % 256 = 0)
    (hi : 5 ≤ i) (hi' : i ≤ 5 + L) (hv : v ≠ byteAt b i) :
    (sumBytes (((b.set i v).drop 5).take L) + (byteAt (b.set i v) (5 + L)).toNat) % 256 ≠ 0 := by
  have hw : i - 5 < ((b.drop 5).take (L + 1)).length := by rw [List.length_take, List.length_drop]; omega
  have hbyte : byteAt ((b.drop 5).take (L + 1)) (i - 5) = byteAt b i := by
    rw [byteAt, List.getD_eq_getElem _ _ hw, List.getElem_take, List.getElem_drop, byteAt,
      List.getD_eq_getElem _ _ (by omega)]
    simp only [Nat.add_sub_cancel' hi]
  rw [sumBytes_window h] at hsum
  rw [sumBytes_window (by rwa [List.length_set]), window_set b v _ hi, ← hsum]
  exact sumBytes_set_mod_ne hw (hbyte ▸ hv)

/-! ### The result, by the index of the changed byte -/

section
variable {b : Bytes} {i : Nat} {v : Byte} (hv : v ≠ byteAt b i)
include hv

theorem decodeFrame_set_preamble (h : Complete b) (hi : i = 0) : decodeFrame (b.set i v) = .malformed .badPreamble := by
  refine decodeFrame_of_badPreamble (sizeOk_set h i v) ?_
  obtain ⟨⟨⟨⟨⟨-, h0⟩, -⟩, -⟩, -⟩, hfit⟩ := h
  subst hi
  rwa [byteAt_set_self v (by omega), ← h0]

theorem decodeFrame_set_startCode (h : Complete b) (hi : i = 1 ∨ i = 2) :
    decodeFrame (b.set i v) = .malformed .badStartCode := by
  refine decodeFrame_of_badStartCode (preambleOk_set h v (by omega)) fun ⟨hn1, hn2⟩ => ?_
  obtain ⟨⟨⟨⟨-, h1, h2⟩, -⟩, -⟩, hfit⟩ := h
  obtain rfl | rfl := hi
  · rw [byteAt_set_self v (by omega)] at hn1
    exact hv (hn1.trans h1.symm)
  · rw [byteAt_set_self v (by omega)] at hn2
    exact hv (hn2.trans h2.symm)

/-- One LCS for each LEN, and one LEN for each LCS (30_encoding.md R94). -/
theorem decodeFrame_set_lenOrLcs (h : Complete b) (hi : i = 3 ∨ i = 4) :
    decodeFrame (b.set i v) = .malformed .badLcs := by
  refine decodeFrame_of_badLcs (startCodeOk_set h v (by omega)) fun hn => ?_
  obtain ⟨⟨⟨-, hlcs⟩, -⟩, hfit⟩ := h
  obtain rfl | rfl := hi
  · rw [byteAt_set_self v (by omega), byteAt_set_ne b v (by omega), Nat.add_comm, completes_iff_eq_neg8] at hn
    rw [Nat.add_comm, completes_iff_eq_neg8] at hlcs
    exact hv (hn.trans hlcs.symm)
  · rw [byteAt_set_self v (by omega), byteAt_set_ne b v (by omega), completes_iff_eq_neg8] at hn
    rw [completes_iff_eq_neg8] at hlcs
    exact hv (hn.trans hlcs.symm)

variable (h : PostambleOk b)
include h

/-- From opcode to DCS, and at TFI when the other legal value is written. -/
theorem decodeFrame_set_window (hi : 5 ≤ i) (hi' : i ≤ 5 + (byteAt b 3).toNat)
    (htfi : byteAt (b.set i v) 5 = 0xD4 ∨ byteAt (b.set i v) 5 = 0xD5) :
    decodeFrame (b.set i v) = .malformed .badDcs := by
  obtain ⟨⟨⟨hc, -⟩, hdcs⟩, -⟩ := h
  have hfit := hc.2
  refine decodeFrame_of_badDcs ⟨complete_set hc v hi, htfi⟩ ?_
  rw [byteAt_set_ne b v (by omega : i ≠ 3)]
  exact windowSum_set_ne (by omega) hdcs hi hi' hv

theorem decodeFrame_set_tfi (hi : i = 5) :
    decodeFrame (b.set i v) = .malformed .badTfi ∨ decodeFrame (b.set i v) = .malformed .badDcs := by
  by_cases htfi : byteAt (b.set i v) 5 = 0xD4 ∨ byteAt (b.set i v) 5 = 0xD5
  · exact .inr (decodeFrame_set_window hv h (by omega) (by omega) htfi)
  · exact .inl (decodeFrame_of_badTfi (complete_set h.complete v (by omega)) htfi)

theorem decodeFrame_set_data (hi : 6 ≤ i) (hi' : i ≤ 5 + (byteAt b 3).toNat) :
    decodeFrame (b.set i v) = .malformed .badDcs := by
  refine decodeFrame_set_window hv h (by omega) hi' ?_
  obtain ⟨⟨⟨-, htfi⟩, -⟩, -⟩ := h
  rwa [byteAt_set_ne b v (by omega)]

theorem decodeFrame_set_postamble (hi : i = 6 + (byteAt b 3).toNat) :
    decodeFrame (b.set i v) = .malformed .badPostamble := by
  obtain ⟨⟨⟨hc, htfi⟩, hdcs⟩, hpost⟩ := h
  have hfit := hc.2
  have h3 := byteAt_set_ne b v (by omega : i ≠ 3)
  refine decodeFrame_of_badPostamble ⟨⟨complete_set hc v (by omega), ?_⟩, ?_⟩ ?_
  · rwa [byteAt_set_ne b v (by omega)]
  · rw [h3, byteAt_set_ne b v (by omega), window_set b v _ (by omega), List.set_eq_of_length_le]
    · exact hdcs
    · rw [List.length_take]; omega
  · rw [h3, ← hi, byteAt_set_self v (by omega)]
    rwa [hi, hpost] at hv

end

/-- 40_framecodec.md R139: a byte beyond the postamble is not looked at. -/
theorem decodeFrame_set_tail {b : Bytes} {tfi op : Byte} {p : Bytes} {i : Nat} (h : decodeFrame b = .ok tfi op p)
    (v : Byte) (hi : (byteAt b 3).toNat + 7 ≤ i) : decodeFrame (b.set i v) = .ok tfi op p := by
  obtain ⟨ht, hp, t, rfl⟩ := (decodeAcceptsExactlyWireFrames b tfi op p).1 h
  have h3 : (byteAt (wireFrame tfi op p ++ t) 3).toNat = p.length + 2 := by
    change (BitVec.ofNat 8 (p.length + 2)).toNat = _
    rw [BitVec.toNat_ofNat]; omega
  have hlen : (wireFrame tfi op p).length ≤ i := by simp [wireFrame]; omega
  rw [List.set_append_right _ _ hlen]
  exact decodeFrame_wireFrame_append tfi op p _ ht hp

/-- Settles O9: every index has its lemma above, and they agree on the one sub-cause that `DECODE` reports. -/
theorem oneByteChangeIsMalformed : Obligations.OneByteChangeIsMalformed := by
  intro b tfi op p i v h hv
  have hok := postambleOk_of_decodeFrame h
  have hc := hok.complete
  refine ⟨fun (hi : i < (byteAt b 3).toNat + 7) => ?_, decodeFrame_set_tail h v⟩
  have hsome : ∃ sub, decodeFrame (b.set i v) = .malformed sub := by
    have hcases : i = 0 ∨ (i = 1 ∨ i = 2) ∨ (i = 3 ∨ i = 4) ∨ i = 5 ∨ (6 ≤ i ∧ i ≤ 5 + (byteAt b 3).toNat) ∨
      i = 6 + (byteAt b 3).toNat := by omega
    obtain hi | hi | hi | hi | ⟨hi, hi'⟩ | hi := hcases
    · exact ⟨_, decodeFrame_set_preamble hv hc hi⟩
    · exact ⟨_, decodeFrame_set_startCode hv hc hi⟩
    · exact ⟨_, decodeFrame_set_lenOrLcs hv hc hi⟩
    · exact (decodeFrame_set_tfi hv hok hi).elim (⟨_, ·⟩) (⟨_, ·⟩)
    · exact ⟨_, decodeFrame_set_data hv hok hi hi'⟩
    · exact ⟨_, decodeFrame_set_postamble hv hok hi⟩
  obtain ⟨sub, hsub⟩ := hsome
  have hunique {e : ErrSub} (he : decodeFrame (b.set i v) = .malformed e) : sub = e :=
    DecodeResult.malformed.inj (hsub.symm.trans he)
  exact ⟨sub, hsub, fun hi => hunique (decodeFrame_set_preamble hv hc hi),
    fun hi => hunique (decodeFrame_set_startCode hv hc hi), fun hi => hunique (decodeFrame_set_lenOrLcs hv hc hi),
    fun hi => (decodeFrame_set_tfi hv hok hi).imp hunique hunique,
    fun ⟨hi, hi'⟩ => hunique (decodeFrame_set_data hv hok hi hi'),
    fun hi => hunique (decodeFrame_set_postamble hv hok hi)⟩

end Sys2Proof.Machine
end

section
/-! SUPPORT. `START` by the gate or the write that decides (41_handshake.md R161, R162, R163), and everything that issues
one. -/

namespace Sys2Proof.Machine

/-! ### The gates -/

theorem startRefusal_of_busy {s : State} (p : Bytes) (hb : s.busy = true) : startRefusal p s = some .busy := if_pos hb

theorem startRefusal_of_tooLong {s : State} {p : Bytes} (hb : s.busy = false) (hd : s.devstate ≠ .poweredDown)
    (hp : 252 < p.length) : startRefusal p s = some .encodeOverflow := by
  simp [startRefusal, payloadTooLong, hb, (asleep_eq_false_iff s).2 hd, hp]

theorem startOp_of_refused {p : Bytes} {s : State} {r : Refusal} (op : Byte) (ta tr : Option Timer)
    (h : startRefusal p s = some r) : startOp op p ta tr s = .refused r := by
  simp [startOp, h]

/-- `START` in a ready state with a payload in range and a write that fails (41_handshake.md R163). -/
theorem startOp_of_writeError {s : State} {p : Bytes} {info : Nat} (op : Byte) (ta tr : Option Timer) (hs : s.ready)
    (hp : p.length ≤ 252) (hw : s.nextWrite = .ioErr info) :
    startOp op p ta tr s =
      .next (((s.latchCommand op p ta tr).afterWrite (infoFrameBytes 0xD4 op p)).raise (.ioError info)) := by
  obtain ⟨hbusy, hawake⟩ := hs
  rw [startOp_of_taken op ta tr ((startRefusal_eq_none_iff p s).2 ⟨hbusy, .inr hp⟩)]
  have ho := startTaken_outcome op p ta tr s
  generalize startTaken op p ta tr s = t at ho
  cases ho with
  | asleep hd => exact absurd hd hawake
  | sent hd he => rw [hw] at he; cases he
  | writeError info' hd he => cases hw.symm.trans he; rfl

/-- Settles O16: `START` from a ready state, by the answer to its write. -/
theorem startSendsFrameOrFails : Obligations.StartSendsFrameOrFails := by
  intro op p ta tr s hs hp
  rw [← infoFrameBytes_eq_wireFrame 0xD4 op (by omega)]
  exact ⟨startOp_of_ready op ta tr hs hp, fun _ => startOp_of_writeError op ta tr hs hp⟩

/-- Settles O17: each gate by the refusal or the failure it answers with. -/
theorem startGatesInOrder : Obligations.StartGatesInOrder := by
  intro op p ta tr s
  refine ⟨fun hb => ?_, fun hack hresp hd => ?_, fun hack hresp hd hp => ?_⟩
  · exact startOp_of_refused op ta tr (startRefusal_of_busy p ((busy_iff s).2 hb))
  · have hnone := (startRefusal_eq_none_iff p s).2 ⟨(busy_eq_false_iff s).2 ⟨hack, hresp⟩, .inl hd⟩
    refine (startOp_of_taken op ta tr hnone).trans ?_
    rw [startTaken, if_pos ((asleep_iff s).2 hd), State.failAsleep]
  · exact startOp_of_refused op ta tr (startRefusal_of_tooLong ((busy_eq_false_iff s).2 ⟨hack, hresp⟩) hd hp)

/-! ### What issues a `START` -/

/-- A sequence of the controller layer is refused with its first `START` (43_controller_sequences.md R220). -/
theorem exec_of_isMacro_of_busy {i : Instr} {s : State} (hi : i.isMacro = true) (hb : s.busy = true) :
    exec i s = .refused .busy := by
  have hr (p : Bytes) := startRefusal_of_busy p hb
  cases i with
  | getfw => simp [exec, execGetfw, hr]
  | setup => simp [exec, execSetup, hr]
  | list limit => simp [exec, execList, hr]
  | pwrdown => simp [exec, execPwrdown, hr]
  | _ => cases hi

theorem start_or_commandOf_or_isMacro {i : Instr} (h : i.startsTransaction = true) :
    (∃ op p ta tr, i = .start op p ta tr) ∨ (∃ op p, i.commandOf = some (op, p)) ∨ i.isMacro = true := by
  cases i with
  | start op p ta tr => exact .inl ⟨op, p, ta, tr, rfl⟩
  | getfw | setup | list | pwrdown => exact .inr (.inr rfl)
  | cmdGetFirmwareVersion | cmdSAMConfiguration | cmdPowerDown | cmdRFConfiguration | cmdInListPassiveTarget =>
    exact .inr (.inl ⟨_, _, rfl⟩)
  | infoFrame tfi op p t =>
    obtain ⟨⟨op', p'⟩, hop⟩ := Option.isSome_iff_exists.1 (show (Instr.infoFrame tfi op p t).commandOf.isSome from h)
    exact .inr (.inl ⟨op', p', hop⟩)
  | _ => cases h

/-- Settles O18: `START`, the frames that run as one, and the sequences, all by the first gate. -/
theorem startersRefusedWhileInFlight : Obligations.StartersRefusedWhileInFlight := by
  intro i s hi hflight
  have hb := (busy_iff s).2 hflight
  rcases start_or_commandOf_or_isMacro hi with ⟨op, p, ta, tr, rfl⟩ | ⟨op, p, hop⟩ | hmacro
  · exact startOp_of_refused op ta tr (startRefusal_of_busy p hb)
  · exact (exec_of_commandOf hop s).trans (startOp_of_refused op none none (startRefusal_of_busy p hb))
  · exact exec_of_isMacro_of_busy hmacro hb

end Sys2Proof.Machine
end

section
/-! SUPPORT. The two polls by what they hear: a read that fails, a buffer that is short or not ready, a ready buffer
(41_handshake.md R164 to R176; 20_memory.md R67, R68). -/

namespace Sys2Proof.Machine

/-! ### Enabling -/

theorem exec_pollAck_of_due {s : State} (hd : s.pollAckDue = true) : exec .pollAck s = .next (pollAck s) := if_pos hd

theorem exec_pollAck_of_not_due {s : State} (hd : s.pollAckDue = false) : exec .pollAck s = .fault .stepNotEnabled :=
  if_neg (by simp [hd])

theorem exec_pollResp_of_due {s : State} (hd : s.pollRespDue = true) : exec .pollResp s = .next (pollResp s) := if_pos hd

theorem exec_pollResp_of_not_due {s : State} (hd : s.pollRespDue = false) :
    exec .pollResp s = .fault .stepNotEnabled :=
  if_neg (by simp [hd])

/-- Settles O31: a poll runs where it is due. -/
theorem pollsEnabledExactlyWhenDue : Obligations.PollsEnabledExactlyWhenDue := by
  intro s
  rw [← pollAckDue_iff, ← pollRespDue_iff, Bool.not_eq_true, Bool.not_eq_true]
  exact ⟨⟨fun h => ⟨_, exec_pollAck_of_due h⟩, exec_pollAck_of_not_due⟩,
    ⟨fun h => ⟨_, exec_pollResp_of_due h⟩, exec_pollResp_of_not_due⟩⟩

/-! ### A read that fails -/

theorem pollAck_of_ioErr {s : State} {info : Nat} (h : s.nextRead 7 = .ioErr info) :
    pollAck s = (s.afterRead 7).raise (.ioError info) := by
  rw [pollAck, h]

theorem pollResp_of_ioErr {s : State} {info : Nat} (h : s.nextRead 263 = .ioErr info) :
    pollResp s = (s.afterRead 263).raise (.ioError info) := by
  rw [pollResp, h]

/-- Settles O20: either poll raises `IoError` before it looks at the time. -/
theorem pollFailsOnReadError : Obligations.PollFailsOnReadError := by
  intro s info
  refine ⟨fun hd h => ?_, fun hd h => ?_⟩
  · rw [exec_pollAck_of_due hd, pollAck_of_ioErr h]; rfl
  · rw [exec_pollResp_of_due hd, pollResp_of_ioErr h]; rfl

/-! ### Short, not ready, ready -/

theorem bufReady_eq (mask : Byte) (buf : Bytes) : bufReady mask buf = (buf.getD 0 0 &&& mask != 0) := by
  cases buf with
  | nil => simp [bufReady]
  | cons => rfl

theorem ackUsable_eq_false_iff (mask : Byte) (buf : Bytes) :
    ackUsable mask buf = false ↔ buf.length < 7 ∨ buf.getD 0 0 &&& mask = 0 := by
  rw [ackUsable, bufReady_eq]
  simp only [Bool.and_eq_false_iff, decide_eq_false_iff_not, not_le, bne_eq_false_iff_eq]

theorem respUsable_eq_false_iff (mask : Byte) (buf : Bytes) :
    respUsable mask buf = false ↔ buf.length < 10 ∨ buf.getD 0 0 &&& mask = 0 := by
  rw [respUsable, bufReady_eq]
  simp only [Bool.and_eq_false_iff, decide_eq_false_iff_not, not_le, bne_eq_false_iff_eq, Config.minFrame]

theorem pollAck_of_not_ready {s : State} {buf : Bytes} (h : s.nextRead 7 = .ok buf)
    (hn : buf.length < 7 ∨ buf.getD 0 0 &&& s.params.readyMask.val = 0) : pollAck s = notReadyAck (s.afterRead 7) := by
  rw [pollAck, h]
  exact if_pos (by rw [State.afterRead_params, (ackUsable_eq_false_iff _ _).2 hn, Bool.not_false])

theorem pollAck_of_ready {s : State} {status : Byte} {six : Bytes} (h : s.nextRead 7 = .ok (status :: six))
    (hs : status &&& s.params.readyMask.val ≠ 0) (hlen : six.length = 6) :
    pollAck s = if isAckBytes six then (s.afterRead 7).enterResponseWait else (s.afterRead 7).raise .ackMismatch := by
  have hu : ackUsable s.params.readyMask.val (status :: six) = true := by
    rw [← Bool.not_eq_false, ackUsable_eq_false_iff, not_or, List.length_cons]
    exact ⟨by omega, hs⟩
  have hsix : slice (status :: six) 1 7 = six := List.take_of_length_le hlen.le
  rw [pollAck, h]
  simp only [examineAck, State.afterRead_params, hu, hsix, Bool.not_true, Bool.false_eq_true, if_false]

theorem pollResp_of_not_ready {s : State} {buf : Bytes} (h : s.nextRead 263 = .ok buf)
    (hn : buf.length < 10 ∨ buf.getD 0 0 &&& s.params.readyMask.val = 0) :
    pollResp s = notReadyResp (s.afterRead 263) := by
  rw [pollResp, h]
  exact if_pos (by rw [State.afterRead_params, (respUsable_eq_false_iff _ _).2 hn, Bool.not_false])

theorem pollResp_of_ready {s : State} {status : Byte} {b : Bytes} (h : s.nextRead 263 = .ok (status :: b))
    (hs : status &&& s.params.readyMask.val ≠ 0) (hlen : 9 ≤ b.length) :
    pollResp s = checkResponse (decodeFrame b) (s.afterRead 263) := by
  have hu : respUsable s.params.readyMask.val (status :: b) = true := by
    rw [← Bool.not_eq_false, respUsable_eq_false_iff, not_or, List.length_cons]
    exact ⟨by omega, hs⟩
  rw [pollResp, h]
  simp only [examineResp, State.afterRead_params, hu, Bool.not_true, Bool.false_eq_true, if_false, List.drop_one,
    List.tail_cons]

/-! ### The ACK poll -/

/-- Settles O21: before the deadline `notReadyAck` schedules the next poll. -/
theorem ackPollNotReadyReschedules : Obligations.AckPollNotReadyReschedules := by
  intro s buf hd h hn ht
  refine ⟨_, schedulePoll_nextpoll_toNat (s.afterRead 7) s.tAck, ?_⟩
  rw [exec_pollAck_of_due hd, pollAck_of_not_ready h hn, notReadyAck_of_lt (s := s.afterRead 7) ht]
  rfl

/-- Settles O22: the six bytes after the ready status byte are the sentinel. -/
theorem ackSeenEntersResponseWait : Obligations.AckSeenEntersResponseWait := by
  intro s status hd hs h
  rw [exec_pollAck_of_due hd, pollAck_of_ready h hs rfl]
  rfl

theorem isAckBytes_of_six {six : Bytes} (hlen : six.length = 6) : isAckBytes six = true ↔ six = ackSentinel := by
  rw [isAckBytes_iff]
  exact ⟨fun h => (h.eq_of_length hlen.symm).symm, fun h => h ▸ List.prefix_rfl⟩

/-- Settles O23: six other bytes are no ACK. -/
theorem ackMismatchFails : Obligations.AckMismatchFails := by
  intro s status six hd hs hlen hne h
  rw [exec_pollAck_of_due hd, pollAck_of_ready h hs hlen, if_neg (mt (isAckBytes_of_six hlen).1 hne)]
  rfl

/-- Settles O24: the deadline, by the retry and the answer to the re-send. -/
theorem ackDeadlineRetriesOnceThenFails : Obligations.AckDeadlineRetriesOnceThenFails := by
  intro s buf hd h hn ht
  have hx {t : State} (hdeadline : ackDeadline (s.afterRead 7) = t) : exec .pollAck s = .next t := by
    rw [exec_pollAck_of_due hd, pollAck_of_not_ready h hn, notReadyAck_of_le (by simp [ht]), hdeadline]
  exact ⟨fun hr hw => hx (ackDeadline_of_resend hr hw), fun info hr hw => hx (ackDeadline_of_resendError hr hw),
    fun hr => hx (ackDeadline_of_no_retry hr)⟩

/-- A poll whose new events are one read has written nothing. -/
theorem not_write_mem_drop_read {l t : List BusEvent} {addr addr' : BitVec 7} {n : Nat} {b : Bytes} {a : WriteAnswer}
    {x : ReadAnswer} (ht : t = l ++ [.read addr' n x]) : .write addr b a ∉ t.drop l.length := by
  simp [ht]

/-- Settles O25: of the outcomes of both polls only the two re-sends have a write among their events. -/
theorem onlyFirstAckTimeoutResends : Obligations.OnlyFirstAckTimeoutResends := by
  intro s t addr b a hx hmem
  rcases hx with hx | hx
  · obtain ⟨hd, rfl⟩ : s.pollAckDue = true ∧ t = pollAck s := by
      refine ⟨?_, eq_pollAck_of_exec hx⟩
      by_contra hd
      rw [exec_pollAck_of_not_due (by simpa using hd)] at hx
      cases hx
    obtain ⟨htx, -⟩ := (pollAckDue_iff s).1 hd
    have ho := pollAck_outcome s
    generalize pollAck s = t at ho hmem
    cases ho with
    | resend buf h hu ht hr | resendError buf info h hu ht hr =>
      obtain ⟨rfl, rfl, rfl⟩ : addr = s.params.i2cAddr ∧ b = s.txbuf ∧ a = (s.afterRead 7).nextWrite := by
        simpa [resent, resendFailed] using hmem
      exact ⟨htx, hr, ht, rfl, rfl, rfl, ⟨buf, h, hu⟩, List.append_assoc _ _ _⟩
    | _ => exact absurd hmem (not_write_mem_drop_read rfl)
  · rw [eq_pollResp_of_exec hx] at hmem
    exact absurd hmem (not_write_mem_drop_read (pollResp_trace s))

/-! ### The response poll -/

/-- Settles O26: `notReadyResp` on either side of the deadline. -/
theorem responsePollNotReady : Obligations.ResponsePollNotReady := by
  intro s buf hd h hn
  have hx {t : State} (hwait : notReadyResp (s.afterRead 263) = t) : exec .pollResp s = .next t := by
    rw [exec_pollResp_of_due hd, pollResp_of_not_ready h hn, hwait]
  exact ⟨fun ht => ⟨_, schedulePoll_nextpoll_toNat (s.afterRead 263) s.tResp, hx (notReadyResp_of_lt ht)⟩,
    fun ht => hx (notReadyResp_of_le ht)⟩

/-- A ready buffer of ten bytes or more is decoded and checked. -/
theorem exec_pollResp_of_ready {s : State} {status : Byte} {b : Bytes} (hd : s.pollRespDue = true)
    (hs : status &&& s.params.readyMask.val ≠ 0) (hlen : 9 ≤ b.length) (h : s.nextRead 263 = .ok (status :: b)) :
    exec .pollResp s = .next (checkResponse (decodeFrame b) (s.afterRead 263)) := by
  rw [exec_pollResp_of_due hd, pollResp_of_ready h hs hlen]

/-- Settles O27: `checkResponse` on each result of the decoder that is no response frame. -/
theorem responseDecodeAndDirectionFailures : Obligations.ResponseDecodeAndDirectionFailures := by
  intro s status b hd hs hlen h
  have hx := exec_pollResp_of_ready hd hs hlen h
  refine ⟨fun hb => ?_, fun sub hb => ?_, fun tfi op p hb ht => ?_⟩
  · rw [hx, hb]; rfl
  · rw [hx, hb]; rfl
  · rw [hx, hb, checkResponse, if_pos ht]; rfl

/-- Correlation as the rule counts it, modulo 256 (41_handshake.md R175). -/
theorem eq_add_one_iff_toNat (op cmd : Byte) : op = cmd + 1 ↔ op.toNat = (cmd.toNat + 1) % 256 := by
  rw [← BitVec.toNat_inj, BitVec.toNat_add]
  rfl

/-- Settles O28: `checkResponse` on a response frame of another opcode. -/
theorem uncorrelatedResponseFails : Obligations.UncorrelatedResponseFails := by
  intro s status op b p hd hs hlen h hb hop
  rw [exec_pollResp_of_ready hd hs hlen h, hb, checkResponse_ok,
    if_neg (mt (eq_add_one_iff_toNat op (s.afterRead 263).cmdOpcode).1 hop)]
  rfl

/-- Settles O29: `checkResponse` on the correlated response frame. -/
theorem correlatedResponseCompletes : Obligations.CorrelatedResponseCompletes := by
  intro s status op b p hd hs hlen h hb hop
  rw [exec_pollResp_of_ready hd hs hlen h, hb, checkResponse_ok,
    if_pos ((eq_add_one_iff_toNat op (s.afterRead 263).cmdOpcode).2 hop)]
  rfl

/-! ### Frames heard by the ACK poll -/

theorem isAckBytes_wireFrame_append {tfi : Byte} (op : Byte) {p : Bytes} (t : Bytes) (ht : tfi = 0xD4 ∨ tfi = 0xD5)
    (hp : p.length ≤ 253) : isAckBytes (wireFrame tfi op p ++ t) = false :=
  ((decodeFrame_eq_ok_iff _ _ _ _).1 (decodeFrame_wireFrame_append tfi op p t ht hp)).1

/-- Settles O36: the due ACK poll compares the first six bytes of what it hears. -/
theorem frameReadByDueAckPoll : Obligations.FrameReadByDueAckPoll := by
  intro s tail hd
  refine ⟨s.readyStatus, s.readyStatus_ready, ?_, fun i op p t hi hp => ?_⟩
  · have hack : isAckBytes (ackSentinel ++ tail) = true := (isAckBytes_iff _).2 (List.prefix_append _ _)
    change Host.Outcome.next (receive (ackSentinel ++ tail) s) = _
    rw [receive_by_ackPoll hd (by simp [ackSentinel]), if_pos hack]
    rfl
  · have hlen : 6 ≤ (wireFrame 0xD5 op p ++ t).length := by simp [wireFrame]
    rw [exec_of_responseOf hi hp, receive_by_ackPoll hd hlen, isAckBytes_wireFrame_append op t (.inr rfl) hp]
    rfl

end Sys2Proof.Machine
end

section
/-! SUPPORT. `TICK`, the step with nothing pending, and the terminal states (41_handshake.md R160, R170, R179). -/

namespace Sys2Proof.Machine

/-! ### TICK -/

theorem tickEnabled_iff (s : State) :
    s.tickEnabled = true ↔ s.busy = false ∨ s.elapsed.toNat < s.nextpoll.toNat := by
  simp [State.tickEnabled]

theorem exec_tick_of_enabled {s : State} (h : s.tickEnabled = true) : exec .tick s = .next (tickState s) := if_pos h

theorem exec_tick_of_not_enabled {s : State} (h : s.tickEnabled = false) : exec .tick s = .fault .stepNotEnabled :=
  if_neg (by simp [h])

/-- Settles O30: `TICK` is enabled outside the wait states and before the next poll. -/
theorem tickCountsWhileWaiting : Obligations.TickCountsWhileWaiting := by
  intro s
  refine ⟨fun hb ht => ⟨_, elapsed_succ_toNat ht, ?_⟩, fun hb => ?_, fun hb ht => ?_⟩
  · rw [exec_tick_of_enabled ((tickEnabled_iff s).2 (.inr ht)), tickState_of_lt hb ht]
  · rw [exec_tick_of_enabled ((tickEnabled_iff s).2 (.inl hb)), tickState_of_not_busy hb]
  · refine exec_tick_of_not_enabled (Bool.eq_false_iff.2 (mt (tickEnabled_iff s).1 ?_))
    simp [hb, ht]

/-! ### What a step runs -/

theorem step_of_wire {s : State} {b : Bytes} {rest : List Input} {i : Instr} (hq : s.pending = .wire b :: rest)
    (hb : decode b = .ok i) : step s = exec i (s.withQueue rest) := by
  simp [step, fetch, hq, readInput, hb, State.withQueue]

theorem step_of_op {s : State} {rest : List Input} {i : Instr} (hq : s.pending = .op i :: rest) :
    step s = exec i (s.withQueue rest) := by
  simp [step, fetch, hq, readInput, State.withQueue]

theorem step_of_nothing_pending {s : State} (hq : s.pending = []) : step s = exec (ownInstr s) s := by
  simp [step, fetch, hq]

theorem decode_of_decodeTableWord {nbits w : Nat} {i : Instr} (h : decodeTableWord nbits w = some i) :
    decode (tableBytes nbits w) = .ok i := by
  unfold decodeTableWord at h
  split at h
  · next j hj => cases h; exact hj
  · cases h

/-- Settles O14: the event handed over first, by its kind; with none, the own instruction. -/
theorem stepRunsFetchedInstruction : Obligations.StepRunsFetchedInstruction := by
  refine ⟨fun s b rest i => step_of_wire, fun s b rest e => step_of_undecoded, fun s rest i => step_of_op,
    fun s hq ha => ?_, fun s hq hr => ?_, fun s hq ha hr => ?_, fun s nbits w i hi => ?_⟩
  · rw [step_of_nothing_pending hq, ownInstr, if_pos ha]
  · have ha : ¬ s.pollAckDue = true := fun ha => by simp [not_pollRespDue_of_pollAckDue ha] at hr
    rw [step_of_nothing_pending hq, ownInstr, if_neg ha, if_pos hr]
  · rw [step_of_nothing_pending hq, ownInstr]
    simp [ha, hr]
  · exact step_of_wire (s := s.withFetchWord nbits w) rfl (decode_of_decodeTableWord hi)

/-! ### The own step -/

/-- In a wait state within its timers either the poll is due or the next poll is ahead (41_handshake.md R172). -/
theorem elapsed_lt_nextpoll {s : State} (h : s.TimersOk) (hb : s.busy = true) (ha : s.pollAckDue = false)
    (hr : s.pollRespDue = false) : s.elapsed.toNat < s.nextpoll.toNat := by
  obtain ⟨hack, hresp⟩ := h
  rcases (busy_iff s).1 hb with ht | ht
  · refine (hack ht).1.lt_of_ne fun he => ?_
    rw [(pollAckDue_iff s).2 ⟨ht, BitVec.eq_of_toNat_eq he⟩] at ha
    cases ha
  · refine (hresp ht).1.lt_of_ne fun he => ?_
    rw [(pollRespDue_iff s).2 ⟨ht, BitVec.eq_of_toNat_eq he⟩] at hr
    cases hr

theorem exec_ownInstr {s : State} (h : s.TimersOk) : exec (ownInstr s) s = .next (ownStep s) := by
  unfold ownInstr ownStep
  split_ifs with ha hr
  · exact exec_pollAck_of_due ha
  · exact exec_pollResp_of_due hr
  · refine exec_tick_of_enabled ((tickEnabled_iff s).2 ?_)
    rcases hb : s.busy with _ | _
    · exact .inl rfl
    · exact .inr (elapsed_lt_nextpoll h hb (by simpa using ha) (by simpa using hr))

/-- Settles O48: the own instruction is enabled within the timers. -/
theorem ownStepNeverStuck : Obligations.OwnStepNeverStuck := fun _ h hq =>
  (step_of_nothing_pending hq).trans (exec_ownInstr h.timers)

/-! ### The terminal states -/

/-- Settles O54: in a terminal state no poll is due and no tick counts, so bytes from the chip are held. -/
theorem terminalStatesLeftOnlyByStartOrReset : Obligations.TerminalStatesLeftOnlyByStartOrReset := by
  intro i s t hx hstart hreset hterm
  have hb : s.busy = false := (busy_eq_false_iff s).2 (by rcases hterm with h | h <;> simp [h])
  have ha : s.pollAckDue = false := by rcases hterm with h | h <;> simp [State.pollAckDue, h]
  have hr : s.pollRespDue = false := by rcases hterm with h | h <;> simp [State.pollRespDue, h]
  cases exec_outcome hx with
  | returned | woken => exact ⟨rfl, rfl, rfl⟩
  | polledAck hd => rw [ha] at hd; cases hd
  | polledResp hd => rw [hr] at hd; cases hd
  | ticked => rw [tickState_of_not_busy hb]; exact ⟨rfl, rfl, rfl⟩
  | received b _ => rw [receive_of_not_due b ha hr]; exact ⟨rfl, rfl, rfl⟩
  | reset => exact absurd rfl hreset
  | started op p ta tr hi hr => rw [hi] at hstart; cases hstart
  | transacted op p ta tr r n hi hr => rw [startsTransaction_of_isMacro hi] at hstart; cases hstart
  | setUp => cases hstart

/-! ### How long a transaction takes -/

/-- The ticks that the transaction in flight can still take: what is left of its phase, the second attempt while a retry is
left, and the response phase (41_handshake.md R168, R172). -/
def tickBudget (s : State) : Nat :=
  match s.txstate with
  | .ackWait => (s.tAck.toNat - s.elapsed.toNat) + (if s.retryLeft then s.tAck.toNat else 0) + s.tResp.toNat
  | .responseWait => s.tResp.toNat - s.elapsed.toNat
  | .idle => 0
  | .done => 0
  | .failed => 0

theorem tickBudget_ackWait {s : State} (h : s.txstate = .ackWait) :
    tickBudget s = (s.tAck.toNat - s.elapsed.toNat) + (if s.retryLeft then s.tAck.toNat else 0) + s.tResp.toNat := by
  simp [tickBudget, h]

theorem tickBudget_responseWait {s : State} (h : s.txstate = .responseWait) :
    tickBudget s = s.tResp.toNat - s.elapsed.toNat := by
  simp [tickBudget, h]

/-- No ACK poll adds to the ticks that are left: the retry spends the window it opens. -/
theorem tickBudget_pollAck_le {s : State} (ht : s.txstate = .ackWait) : tickBudget (pollAck s) ≤ tickBudget s := by
  rw [tickBudget_ackWait ht]
  have ho := pollAck_outcome s
  generalize pollAck s = t at ho
  cases ho with
  | wait => exact (tickBudget_ackWait ht).le
  | resend buf h hu hl hr =>
    rw [tickBudget_ackWait (s := resent s) ht]
    simp [resent, hr]
  | seen =>
    rw [tickBudget_responseWait rfl]
    simp
  | _ => exact Nat.zero_le _

theorem tickBudget_pollResp_le {s : State} (ht : s.txstate = .responseWait) :
    tickBudget (pollResp s) ≤ tickBudget s := by
  have ho := pollResp_outcome s
  generalize pollResp s = t at ho
  cases ho with
  | wait => rw [tickBudget_responseWait ht, tickBudget_responseWait (by exact ht)]; exact le_rfl
  | _ => exact Nat.zero_le _

/-- A tick takes one of the ticks that are left. -/
theorem tickBudget_tickState_lt {s : State} (h : s.TimersOk) (hb : s.busy = true)
    (hlt : s.elapsed.toNat < s.nextpoll.toNat) : tickBudget (tickState s) + 1 ≤ tickBudget s := by
  obtain ⟨hack, hresp⟩ := h
  have he := elapsed_succ_toNat hlt
  rw [tickState_of_lt hb hlt]
  rcases (busy_iff s).1 hb with ht | ht
  · have := (hack ht).2
    rw [tickBudget_ackWait ht, tickBudget_ackWait (by exact ht)]
    dsimp only
    omega
  · have := (hresp ht).2
    rw [tickBudget_responseWait ht, tickBudget_responseWait (by exact ht)]
    dsimp only
    omega

theorem tickBudget_ownStep_le {s : State} (h : s.TimersOk) (hb : s.busy = true) :
    (if s.pollDue then 0 else 1) + tickBudget (ownStep s) ≤ tickBudget s := by
  have ho := ownStep_outcome s
  generalize ownStep s = t at ho
  cases ho with
  | ack hd =>
    have := tickBudget_pollAck_le ((pollAckDue_iff s).1 hd).1
    simpa [State.pollDue, hd]
  | resp hd =>
    have := tickBudget_pollResp_le ((pollRespDue_iff s).1 hd).1
    simpa [State.pollDue, hd]
  | tick ha hr =>
    have := tickBudget_tickState_lt h hb (elapsed_lt_nextpoll h hb ha hr)
    have hdue : s.pollDue = false := by rw [State.pollDue, ha, hr, Bool.or_false]
    rw [hdue, Nat.add_comm]
    exact this

theorem ticksIn_le_tickBudget (n : Nat) {s : State} (h : s.TimersOk) : ticksIn n s ≤ tickBudget s := by
  induction n generalizing s with
  | zero => exact Nat.zero_le _
  | succ n ih =>
    unfold ticksIn
    split
    · next hb =>
      have := tickBudget_ownStep_le h hb
      have := ih (timersOk_ownStep h)
      omega
    · exact Nat.zero_le _

theorem tickBudget_le (s : State) : tickBudget s ≤ 2 * s.tAck.toNat + s.tResp.toNat := by
  unfold tickBudget
  split
  · split <;> omega
  all_goals omega

theorem stepBudget_le (s : State) : stepBudget s ≤ 4 * s.tAck.toNat + 2 * s.tResp.toNat + 5 := by
  unfold stepBudget phaseBudget
  split
  · split_ifs <;> omega
  · split <;> omega
  all_goals omega

/-- Outside the wait states a transaction that has begun is over (10_state.md R22). -/
theorem done_or_failed {s : State} (hb : s.busy = false) (hidle : s.txstate ≠ .idle) :
    s.txstate = .done ∨ s.txstate = .failed := by
  obtain ⟨hack, hresp⟩ := (busy_eq_false_iff s).1 hb
  generalize s.txstate = x at hidle hack hresp ⊢
  cases x with
  | done => exact .inl rfl
  | failed => exact .inr rfl
  | idle => exact absurd rfl hidle
  | ackWait => exact absurd rfl hack
  | responseWait => exact absurd rfl hresp

/-- Settles O55: the budget of steps ends the transaction, and the budget of ticks bounds its ticks. -/
theorem transactionTerminates : Obligations.TransactionTerminates := by
  intro s h hb
  have hend : (runOwn (stepBudget s) s).busy = false := runOwn_ends _ _ h.timers le_rfl
  have hidle : (runOwn (stepBudget s) s).txstate ≠ .idle :=
    runOwn_keeps (P := fun s => s.txstate ≠ .idle) (fun _ _ => ownStep_not_idle) _ _
      (by rcases (busy_iff s).1 hb with h | h <;> simp [h])
  exact ⟨stepBudget s, stepBudget_le s, done_or_failed hend hidle,
    (ticksIn_le_tickBudget _ h.timers).trans (tickBudget_le s)⟩

end Sys2Proof.Machine
end

section
/-! SUPPORT. Runs of own steps against a simulated chip (20_memory.md R66; 41_handshake.md R168, R171, R177). Both wait
phases poll alike, so a phase with a chip that is not ready is followed once: its `k`-th poll is due at
`min(k * POLL_INTERVAL, T)`, after as many ticks and `k` reads. -/

namespace Sys2Proof.Machine

/-! ### Runs -/

/-- `n` own steps against the chip, with the transaction in flight before each of them. -/
inductive ChipRun (chip : State → ReadAnswer) : Nat → State → State → Prop where
  | refl (s : State) : ChipRun chip 0 s s
  | step {n : Nat} {s t : State} (hb : s.busy = true) (h : ChipRun chip n (chipStep chip s) t) : ChipRun chip (n + 1) s t

section
variable {chip : State → ReadAnswer} {m n : Nat} {s t u : State}

theorem ChipRun.runChip_eq (h : ChipRun chip n s t) : runChip chip n s = t := by
  induction h with
  | refl => rfl
  | step hb _ ih => rw [runChip, if_pos hb, ih]

theorem ChipRun.busy_before (h : ChipRun chip n s t) : ∀ m < n, (runChip chip m s).busy = true := by
  induction h with
  | refl => exact fun m hm => absurd hm m.not_lt_zero
  | step hb _ ih =>
    intro m hm
    cases m with
    | zero => exact hb
    | succ m =>
      rw [runChip, if_pos hb]
      exact ih m (by omega)

theorem ChipRun.trans (h : ChipRun chip m s t) (h' : ChipRun chip n t u) : ChipRun chip (m + n) s u := by
  induction h with
  | refl => rwa [Nat.zero_add]
  | step hb _ ih =>
    rw [Nat.add_right_comm]
    exact .step hb (ih h')

/-- One more step at the end. -/
theorem ChipRun.snoc (h : ChipRun chip n s t) (hb : t.busy = true) : ChipRun chip (n + 1) s (chipStep chip t) :=
  h.trans (.step hb (.refl _))

theorem setElapsed_self {e : Timer} (h : s.elapsed = e) : { s with elapsed := e } = s := by
  subst h; rfl

/-- Before the next poll the own steps are ticks (41_handshake.md R170). -/
theorem chipRun_ticks (chip : State → ReadAnswer) (k : Nat) {s : State} (hb : s.busy = true)
    (hk : s.elapsed.toNat + k = s.nextpoll.toNat) : ChipRun chip k s { s with elapsed := s.nextpoll } := by
  induction k generalizing s with
  | zero =>
    rw [setElapsed_self (BitVec.eq_of_toNat_eq hk)]
    exact .refl s
  | succ k ih =>
    have hlt : s.elapsed.toNat < s.nextpoll.toNat := by omega
    have hne : s.elapsed ≠ s.nextpoll := fun he => by simp [he] at hlt
    have hstep : chipStep chip s = { s with elapsed := s.elapsed + 1 } := by
      simp [chipStep, ownStep, State.pollDue, State.pollAckDue, State.pollRespDue, hne, tickState_of_lt hb hlt]
    refine .step hb (hstep ▸ ih (s := { s with elapsed := s.elapsed + 1 }) hb ?_)
    rw [elapsed_succ_toNat hlt]
    dsimp only
    omega

end

/-! ### The two wait phases -/

/-- The wait phases (41_handshake.md R164, R173). -/
inductive Phase where
  | ack
  | resp

namespace Phase

/-- The value of `TXSTATE` in the phase. -/
def txstate : Phase → TxState
  | ack => .ackWait
  | resp => .responseWait

/-- How many bytes a poll of the phase asks for (20_memory.md R68). -/
def readLen : Phase → Nat
  | ack => 7
  | resp => 263

/-- The length below which a buffer is short (20_memory.md R68). -/
def minLen : Phase → Nat
  | ack => 7
  | resp => 10

/-- The timeout of the phase. -/
def limit : Phase → State → Timer
  | ack => State.tAck
  | resp => State.tResp

/-- The poll of the phase. -/
def poll : Phase → State → State
  | ack => pollAck
  | resp => pollResp

/-- What a poll does at the deadline (41_handshake.md R168, R173). -/
def deadline : Phase → State → State
  | ack => ackDeadline
  | resp => fun s => s.raise .responseTimeout

/-- An answer that is short or not ready. -/
def NotReady (ph : Phase) (mask : Byte) (a : ReadAnswer) : Prop :=
  ∃ buf, a = .ok buf ∧ (buf.length < ph.minLen ∨ buf.getD 0 0 &&& mask = 0)

end Phase

/-- The state in which the chip has an answer for the next read. -/
def State.offering (s : State) (a : ReadAnswer) : State := { s with readAns := a :: s.readAns }

/-- The state after a read of at most `n` bytes that the chip answered. -/
def State.logRead (s : State) (n : Nat) (a : ReadAnswer) : State :=
  { s with trace := s.trace ++ [.read s.params.i2cAddr n a] }

theorem nextRead_offering (s : State) (a : ReadAnswer) (n : Nat) : (s.offering a).nextRead n = clipAnswer n a := rfl

theorem afterRead_offering (s : State) (a : ReadAnswer) (n : Nat) :
    (s.offering a).afterRead n = s.logRead n (clipAnswer n a) := rfl

theorem clipAnswer_of_fits {n : Nat} {buf : Bytes} (h : buf.length ≤ n) : clipAnswer n (.ok buf) = .ok buf := by
  rw [clipAnswer, List.take_of_length_le h]

section
variable {ph : Phase} {chip : State → ReadAnswer} {s : State}

theorem busy_of_phase (ht : s.txstate = ph.txstate) : s.busy = true := by
  cases ph with
  | ack => exact (busy_iff s).2 (.inl ht)
  | resp => exact (busy_iff s).2 (.inr ht)

theorem chipStep_of_due (ht : s.txstate = ph.txstate) (hd : s.elapsed = s.nextpoll) :
    chipStep chip s = ph.poll (s.offering (chip s)) := by
  cases ph with
  | ack =>
    have hdue := (pollAckDue_iff s).2 ⟨ht, hd⟩
    rw [chipStep, if_pos (by rw [State.pollDue, hdue, Bool.true_or])]
    exact if_pos hdue
  | resp =>
    have hdue := (pollRespDue_iff s).2 ⟨ht, hd⟩
    have hack : ¬ s.pollAckDue = true := fun ha => by simp [not_pollRespDue_of_pollAckDue ha] at hdue
    rw [chipStep, if_pos (by rw [State.pollDue, hdue, Bool.or_true])]
    exact (if_neg hack).trans (if_pos hdue)

/-- What the transport cuts off an answer does not make it ready (20_memory.md R75). -/
theorem Phase.NotReady.clip {mask : Byte} {a : ReadAnswer} (h : ph.NotReady mask a) :
    ph.NotReady mask (clipAnswer ph.readLen a) := by
  obtain ⟨buf, rfl, hn⟩ := h
  refine ⟨_, rfl, hn.imp (fun hlen => (List.length_take_le' _ _).trans_lt hlen) fun hs => ?_⟩
  have hhead : (buf.take ph.readLen).getD 0 0 = buf.getD 0 0 := by
    cases ph <;> cases buf <;> rfl
  rwa [hhead]

/-- A due poll that hears a short or not-ready buffer before the deadline. -/
theorem chipStep_of_not_ready_of_lt (ht : s.txstate = ph.txstate) (hd : s.elapsed = s.nextpoll)
    (hn : ph.NotReady s.params.readyMask.val (chip s)) (hlt : s.elapsed.toNat < (ph.limit s).toNat) :
    chipStep chip s = (s.logRead ph.readLen (clipAnswer ph.readLen (chip s))).schedulePoll (ph.limit s) := by
  rw [chipStep_of_due ht hd]
  obtain ⟨buf, hbuf, hn⟩ := hn.clip
  cases ph with
  | ack => exact (pollAck_of_not_ready (s := s.offering (chip s)) hbuf hn).trans (notReadyAck_of_lt hlt)
  | resp => exact (pollResp_of_not_ready (s := s.offering (chip s)) hbuf hn).trans (notReadyResp_of_lt hlt)

/-- A due poll that hears a short or not-ready buffer at the deadline. -/
theorem chipStep_of_not_ready_of_le (ht : s.txstate = ph.txstate) (hd : s.elapsed = s.nextpoll)
    (hn : ph.NotReady s.params.readyMask.val (chip s)) (hle : (ph.limit s).toNat ≤ s.elapsed.toNat) :
    chipStep chip s = ph.deadline (s.logRead ph.readLen (clipAnswer ph.readLen (chip s))) := by
  rw [chipStep_of_due ht hd]
  obtain ⟨buf, hbuf, hn⟩ := hn.clip
  cases ph with
  | ack => exact (pollAck_of_not_ready (s := s.offering (chip s)) hbuf hn).trans (notReadyAck_of_le hle)
  | resp => exact (pollResp_of_not_ready (s := s.offering (chip s)) hbuf hn).trans (notReadyResp_of_le hle)

end

/-! ### Polling a chip that is not ready -/

/-- The state of a wait phase whose poll is due at `e` ticks, after the given reads. -/
def State.pollAt (s : State) (ph : Phase) (reads : List ReadAnswer) (e : Timer) : State :=
  { s with
    elapsed := e
    nextpoll := e
    trace := s.trace ++ reads.map (.read s.params.i2cAddr ph.readLen ·) }

theorem pollAt_nil_zero {s : State} (ph : Phase) (he : s.elapsed = 0) (hp : s.nextpoll = 0) : s.pollAt ph [] 0 = s := by
  cases s; cases he; cases hp
  simp [State.pollAt]

theorem logRead_pollAt (s : State) (ph : Phase) (reads : List ReadAnswer) (e : Timer) (a : ReadAnswer) :
    (s.pollAt ph reads e).logRead ph.readLen a = s.pollAt ph (reads ++ [a]) e := by
  simp [State.logRead, State.pollAt]

section
variable {ph : Phase} {chip : State → ReadAnswer} {s : State}

/-- From a poll that is due to the next one: one read, then ticks. -/
theorem chipRun_next_poll {reads : List ReadAnswer} {e : Timer} (ht : s.txstate = ph.txstate)
    (hn : ph.NotReady s.params.readyMask.val (chip (s.pollAt ph reads e))) (hlt : e.toNat < (ph.limit s).toNat) :
    ∃ (a : ReadAnswer) (e' : Timer), e'.toNat = min (e.toNat + s.params.pollInterval.val) (ph.limit s).toNat ∧
      ChipRun chip (e'.toNat - e.toNat + 1) (s.pollAt ph reads e) (s.pollAt ph (reads ++ [a]) e') := by
  have hlimit : ph.limit (s.pollAt ph reads e) = ph.limit s := by cases ph <;> rfl
  have hstep := chipStep_of_not_ready_of_lt (s := s.pollAt ph reads e) ht rfl hn (hlimit ▸ hlt)
  rw [logRead_pollAt, hlimit] at hstep
  generalize clipAnswer ph.readLen (chip (s.pollAt ph reads e)) = a at hstep
  have he' := schedulePoll_nextpoll_toNat (s.pollAt ph (reads ++ [a]) e) (ph.limit s)
  have hb := busy_of_phase (s := s.pollAt ph reads e) ht
  refine ⟨a, _, he', .step hb ?_⟩
  rw [hstep]
  refine chipRun_ticks (s := (s.pollAt ph (reads ++ [a]) e).schedulePoll (ph.limit s)) chip _ hb ?_
  change e.toNat + (_ - e.toNat) = _
  have : e.toNat ≤ ((s.pollAt ph (reads ++ [a]) e).schedulePoll (ph.limit s)).nextpoll.toNat := by
    rw [he']
    exact le_min (Nat.le_add_right _ _) hlt.le
  omega

/-- The `k`-th poll, counted from 0, of a chip that is not ready before `c` ticks. -/
theorem chipRun_kth_poll {c : Nat} (k : Nat) (ht : s.txstate = ph.txstate) (he : s.elapsed = 0) (hp : s.nextpoll = 0)
    (hn : ∀ u : State, u.elapsed.toNat < c → ph.NotReady s.params.readyMask.val (chip u)) (hc : c ≤ (ph.limit s).toNat)
    (hk : ∀ j < k, j * s.params.pollInterval.val < c) :
    ∃ (reads : List ReadAnswer) (e : Timer), reads.length = k ∧
      e.toNat = min (k * s.params.pollInterval.val) (ph.limit s).toNat ∧
      ChipRun chip (e.toNat + k) s (s.pollAt ph reads e) := by
  induction k with
  | zero => exact ⟨[], 0, rfl, by simp, by rw [pollAt_nil_zero ph he hp]; exact .refl s⟩
  | succ k ih =>
    obtain ⟨reads, e, hlen, heq, hrun⟩ := ih fun j hj => hk j (by omega)
    have hkc := hk k (by omega)
    have hlt : e.toNat < c := by omega
    obtain ⟨a, e', heq', hrun'⟩ := chipRun_next_poll ht (hn (s.pollAt ph reads e) hlt) (hlt.trans_le hc)
    refine ⟨reads ++ [a], e', by simp [hlen], by rw [heq', Nat.succ_mul]; omega, ?_⟩
    have hsteps : e'.toNat + (k + 1) = e.toNat + k + (e'.toNat - e.toNat + 1) := by omega
    exact hsteps ▸ hrun.trans hrun'

/-- The first poll at `c` ticks or later, `ceil(c / POLL_INTERVAL)` reads after the start of the phase. -/
theorem chipRun_first_poll_from {c : Nat} (ht : s.txstate = ph.txstate) (he : s.elapsed = 0) (hp : s.nextpoll = 0)
    (hn : ∀ u : State, u.elapsed.toNat < c → ph.NotReady s.params.readyMask.val (chip u))
    (hc : c ≤ (ph.limit s).toNat) :
    ∃ (reads : List ReadAnswer) (e : Timer),
      reads.length = (c + s.params.pollInterval.val - 1) / s.params.pollInterval.val ∧
      c ≤ e.toNat ∧ e.toNat ≤ (ph.limit s).toNat ∧ ChipRun chip (e.toNat + reads.length) s (s.pollAt ph reads e) := by
  have hpos := s.params.pollInterval.2
  rw [← Nat.ceilDiv_eq_add_pred_div]
  obtain ⟨reads, e, hlen, heq, hrun⟩ := chipRun_kth_poll (c ⌈/⌉ s.params.pollInterval.val) ht he hp hn hc fun j hj => by
    rw [← not_le, ceilDiv_le_iff_le_mul hpos, not_le, Nat.mul_comm] at hj
    exact hj
  have hceil : c ≤ c ⌈/⌉ s.params.pollInterval.val * s.params.pollInterval.val := by
    rw [Nat.mul_comm, ← ceilDiv_le_iff_le_mul hpos]
  exact ⟨reads, e, hlen, by omega, by omega, hlen ▸ hrun⟩

/-- A phase that times out (41_handshake.md R171): its last poll is the one at the deadline. -/
theorem chipRun_deadline (ht : s.txstate = ph.txstate) (he : s.elapsed = 0) (hp : s.nextpoll = 0)
    (hn : ∀ u : State, u.elapsed.toNat ≤ (ph.limit s).toNat → ph.NotReady s.params.readyMask.val (chip u)) :
    ∃ reads : List ReadAnswer,
      reads.length = ((ph.limit s).toNat + s.params.pollInterval.val - 1) / s.params.pollInterval.val + 1 ∧
      ChipRun chip ((ph.limit s).toNat + reads.length) s (ph.deadline (s.pollAt ph reads (ph.limit s))) := by
  obtain ⟨reads, e, hlen, hge, hle, hrun⟩ := chipRun_first_poll_from ht he hp (fun u hu => hn u hu.le) le_rfl
  obtain rfl : e = ph.limit s := BitVec.eq_of_toNat_eq (by omega)
  have hlimit : ph.limit (s.pollAt ph reads (ph.limit s)) = ph.limit s := by cases ph <;> rfl
  have hstep := chipStep_of_not_ready_of_le (s := s.pollAt ph reads (ph.limit s)) ht rfl (hn _ le_rfl)
    (by rw [hlimit]; exact le_rfl)
  rw [logRead_pollAt] at hstep
  generalize clipAnswer ph.readLen (chip (s.pollAt ph reads (ph.limit s))) = a at hstep
  have hlen' : (reads ++ [a]).length = reads.length + 1 := by rw [List.length_append, List.length_singleton]
  refine ⟨reads ++ [a], by rw [hlen', hlen], ?_⟩
  rw [hlen', ← hstep]
  exact hrun.snoc (busy_of_phase (s := s.pollAt ph reads (ph.limit s)) ht)

end

theorem chipRun_ackDeadline {chip : State → ReadAnswer} {s : State} (ht : s.txstate = .ackWait) (he : s.elapsed = 0)
    (hp : s.nextpoll = 0)
    (hn : ∀ u : State, u.elapsed.toNat ≤ s.tAck.toNat → Phase.ack.NotReady s.params.readyMask.val (chip u)) :
    ∃ reads : List ReadAnswer,
      reads.length = (s.tAck.toNat + s.params.pollInterval.val - 1) / s.params.pollInterval.val + 1 ∧
      ChipRun chip (s.tAck.toNat + reads.length) s (ackDeadline (s.pollAt .ack reads s.tAck)) :=
  chipRun_deadline (ph := .ack) ht he hp hn

theorem chipRun_respDeadline {chip : State → ReadAnswer} {s : State} (ht : s.txstate = .responseWait)
    (he : s.elapsed = 0) (hp : s.nextpoll = 0)
    (hn : ∀ u : State, u.elapsed.toNat ≤ s.tResp.toNat → Phase.resp.NotReady s.params.readyMask.val (chip u)) :
    ∃ reads : List ReadAnswer,
      reads.length = (s.tResp.toNat + s.params.pollInterval.val - 1) / s.params.pollInterval.val + 1 ∧
      ChipRun chip (s.tResp.toNat + reads.length) s ((s.pollAt .resp reads s.tResp).raise .responseTimeout) :=
  chipRun_deadline (ph := .resp) ht he hp hn

/-! ### The end of an attempt -/

/-- The start of the second attempt (41_handshake.md R168). -/
def State.retried (s : State) : State :=
  { s.afterWrite s.txbuf with retryLeft := false, elapsed := 0, nextpoll := 0 }

/-- An attempt that times out without the retry fails, and has made ACK reads alone. -/
theorem ackDeadline_pollAt_of_no_retry {s : State} (reads : List ReadAnswer) (hr : s.retryLeft = false) :
    let t := ackDeadline (s.pollAt .ack reads s.tAck)
    t.txstate = .failed ∧ t.err = .ackTimeout ∧ t.elapsed = s.tAck ∧
      t.trace = s.trace ++ reads.map (.read s.params.i2cAddr 7 ·) := by
  dsimp only
  rw [ackDeadline_of_no_retry (s := s.pollAt .ack reads s.tAck) hr]
  exact ⟨rfl, rfl, rfl, rfl⟩

/-- An attempt that times out with the retry left ends in the one re-send, whose answer decides. -/
theorem ackDeadline_pollAt_of_retry {s : State} (reads : List ReadAnswer) (hr : s.retryLeft = true) :
    let t := ackDeadline (s.pollAt .ack reads s.tAck)
    t.retryLeft = false ∧ ∃ a,
      t.trace = s.trace ++ reads.map (.read s.params.i2cAddr 7 ·) ++ [.write s.params.i2cAddr s.txbuf a] ∧
      (a = .ok → t.txstate = s.txstate ∧ t.elapsed = 0 ∧ t.nextpoll = 0) ∧
      (∀ info, a = .ioErr info → t.txstate = .failed ∧ t.err = .ioError) := by
  dsimp only
  cases hw : s.nextWrite with
  | ok =>
    rw [ackDeadline_of_resend (s := s.pollAt .ack reads s.tAck) hr hw]
    exact ⟨rfl, s.nextWrite, rfl, fun _ => ⟨rfl, rfl, rfl⟩, fun info hi => by simp [hw] at hi⟩
  | ioErr info =>
    rw [ackDeadline_of_resendError (s := s.pollAt .ack reads s.tAck) hr hw]
    exact ⟨rfl, s.nextWrite, rfl, fun hok => by simp [hw] at hok, fun _ _ => ⟨rfl, rfl⟩⟩

/-- Settles O57: the response phase and either attempt of the ACK phase end with the poll at the deadline. -/
theorem timedOutPhasePollCount : Obligations.TimedOutPhasePollCount := by
  intro chip s he hp
  refine ⟨fun ht hn => ?_, fun ht hn => ?_⟩
  · obtain ⟨reads, hlen, hrun⟩ := chipRun_respDeadline ht he hp fun u _ => hn u
    refine ⟨s.tResp.toNat + reads.length, reads, ?_⟩
    rw [hrun.runChip_eq]
    exact ⟨rfl, rfl, rfl, rfl, hlen, rfl⟩
  · obtain ⟨reads, hlen, hrun⟩ := chipRun_ackDeadline ht he hp fun u _ => hn u
    refine ⟨s.tAck.toNat + reads.length, reads, ?_⟩
    rw [hrun.runChip_eq]
    exact ⟨hlen, rfl, ackDeadline_pollAt_of_no_retry reads, fun hr => ht ▸ ackDeadline_pollAt_of_retry reads hr⟩

/-! ### One re-send -/

@[simp] theorem BusEvent.isReadOf_read (addr : BitVec 7) (m n : Nat) (a : ReadAnswer) :
    (BusEvent.read addr m a).isReadOf n = (m == n) := rfl

@[simp] theorem BusEvent.isReadOf_write (addr : BitVec 7) (b : Bytes) (a : WriteAnswer) (n : Nat) :
    (BusEvent.write addr b a).isReadOf n = false := rfl

theorem filter_not_isReadOf (addr : BitVec 7) (b : Bytes) (w : WriteAnswer) (reads reads' : List ReadAnswer) :
    (reads.map (BusEvent.read addr 7 ·) ++ BusEvent.write addr b w :: reads'.map (BusEvent.read addr 7 ·)).filter
      (fun e => !e.isReadOf 7) = [.write addr b w] := by
  simp [List.filter_map, Function.comp_def]

theorem length_filter_isReadOf (addr : BitVec 7) (b : Bytes) (w : WriteAnswer) (reads reads' : List ReadAnswer) :
    ((reads.map (BusEvent.read addr 7 ·) ++ BusEvent.write addr b w :: reads'.map (BusEvent.read addr 7 ·)).filter
      (fun e => e.isReadOf 7)).length = reads.length + reads'.length := by
  simp [List.filter_map, Function.comp_def]

/-- A chip that is never ready: two attempts that time out, with the re-send between them (41_handshake.md R168). -/
theorem chipRun_both_attempts {chip : State → ReadAnswer} {s : State} (ht : s.txstate = .ackWait) (he : s.elapsed = 0)
    (hp : s.nextpoll = 0) (hr : s.retryLeft = true) (hw : s.nextWrite = .ok)
    (hn : ∀ u : State, Phase.ack.NotReady s.params.readyMask.val (chip u)) :
    ∃ reads reads' : List ReadAnswer, ChipRun chip (s.tAck.toNat + reads.length + (s.tAck.toNat + reads'.length)) s
      (((s.pollAt .ack reads s.tAck).retried.pollAt .ack reads' s.tAck).raise .ackTimeout) := by
  obtain ⟨reads, -, hfirst⟩ := chipRun_ackDeadline ht he hp fun u _ => hn u
  rw [ackDeadline_of_resend (s := s.pollAt .ack reads s.tAck) hr hw] at hfirst
  obtain ⟨reads', -, hsecond⟩ := chipRun_ackDeadline (s := (s.pollAt .ack reads s.tAck).retried) ht rfl rfl
    fun u _ => hn u
  rw [ackDeadline_of_no_retry rfl] at hsecond
  exact ⟨reads, reads', hfirst.trans hsecond⟩

theorem trace_of_both_attempts {s : State} (reads reads' : List ReadAnswer) (e : Timer) (hw : s.nextWrite = .ok) :
    ((s.pollAt .ack reads e).retried.pollAt .ack reads' e).trace = s.trace ++
      (reads.map (.read s.params.i2cAddr 7 ·) ++ .write s.params.i2cAddr s.txbuf .ok ::
        reads'.map (.read s.params.i2cAddr 7 ·)) := by
  have hsent : (s.pollAt .ack reads e).nextWrite = .ok := hw
  simp only [State.retried, State.pollAt, Phase.readLen, State.afterWrite_trace] at hsent ⊢
  simp [hsent]

/-- Settles O56: of the events of both attempts all but the re-send are reads. -/
theorem neverReadyChipGivesAckTimeoutAfterOneRetry : Obligations.NeverReadyChipGivesAckTimeoutAfterOneRetry := by
  intro chip s hn ht he hp hr hw
  obtain ⟨reads, reads', hrun⟩ := chipRun_both_attempts ht he hp hr hw hn
  refine ⟨_, hrun.busy_before, ?_⟩
  rw [hrun.runChip_eq]
  dsimp only
  rw [State.raise_trace, trace_of_both_attempts reads reads' s.tAck hw, List.drop_left]
  refine ⟨rfl, rfl, rfl, rfl, rfl, ?_, ?_⟩
  · exact filter_not_isReadOf ..
  · rw [length_filter_isReadOf]
    omega

/-! ### A chip that answers from some tick on -/

section
variable {chip : State → ReadAnswer} {s : State} {status : Byte}

theorem chipStep_of_ack (ht : s.txstate = .ackWait) (hd : s.elapsed = s.nextpoll)
    (hs : status &&& s.params.readyMask.val ≠ 0) (ha : chip s = .ok (status :: ackSentinel)) :
    chipStep chip s = (s.logRead 7 (.ok (status :: ackSentinel))).enterResponseWait := by
  rw [chipStep_of_due (ph := .ack) ht hd, ha]
  exact pollAck_of_ready (s := s.offering (.ok (status :: ackSentinel))) rfl hs rfl

theorem chipStep_of_response {b p : Bytes} (ht : s.txstate = .responseWait) (hd : s.elapsed = s.nextpoll)
    (hs : status &&& s.params.readyMask.val ≠ 0) (ha : chip s = .ok (status :: b)) (hlen : (status :: b).length ≤ 263)
    (hb : decodeFrame b = .ok 0xD5 (s.cmdOpcode + 1) p) :
    chipStep chip s = complete (s.cmdOpcode + 1) p (s.logRead 263 (.ok (status :: b))) := by
  have hread : (s.offering (chip s)).nextRead 263 = .ok (status :: b) := by
    rw [nextRead_offering, ha, clipAnswer_of_fits hlen]
  have hb9 : 9 ≤ b.length := by
    obtain ⟨-, -, -, -, -, hL, hfit, -⟩ := (decodeFrame_eq_ok_iff b _ _ _).1 hb
    omega
  rw [chipStep_of_due (ph := .resp) ht hd]
  refine (pollResp_of_ready hread hs hb9).trans ?_
  rw [hb, checkResponse_ok, afterRead_offering, ha, clipAnswer_of_fits hlen]
  exact if_pos rfl

end

/-- Settles O58: either the deadline comes first, or the first poll from `d` on reads the response. -/
theorem responseTimeoutIsMonotone : Obligations.ResponseTimeoutIsMonotone := by
  intro chip s d op p ht he hp hop hn hanswer
  subst hop
  by_cases hd : d ≤ s.tResp.toNat
  · obtain ⟨reads, e, -, hge, -, hrun⟩ := chipRun_first_poll_from (ph := .resp) ht he hp hn hd
    obtain ⟨status, b, ha, hlen, hs, hb⟩ := hanswer (s.pollAt .resp reads e) hge
    refine ⟨e.toNat + reads.length + 1, fun hlt => absurd hd (Nat.not_le.2 hlt), fun _ => ?_⟩
    rw [(hrun.snoc (busy_of_phase (ph := .resp) ht)).runChip_eq,
      chipStep_of_response (s := s.pollAt .resp reads e) ht rfl hs ha hlen hb]
    exact ⟨rfl, rfl, rfl⟩
  · obtain ⟨reads, -, hrun⟩ := chipRun_respDeadline ht he hp fun u hu => hn u (hu.trans_lt (not_le.1 hd))
    refine ⟨s.tResp.toNat + reads.length, fun _ => ?_, fun hle => absurd hle hd⟩
    rw [hrun.runChip_eq]
    exact ⟨rfl, rfl⟩

/-- Settles O59: either the deadline comes first, or the first poll from `d` on reads the ACK. -/
theorem ackTimeoutIsMonotone : Obligations.AckTimeoutIsMonotone := by
  intro chip s d ht he hp hn hanswer
  by_cases hd : d ≤ s.tAck.toNat
  · obtain ⟨reads, e, -, hge, -, hrun⟩ := chipRun_first_poll_from (ph := .ack) ht he hp hn hd
    obtain ⟨status, hs, ha⟩ := hanswer (s.pollAt .ack reads e) hge
    have hlt : ¬ s.tAck.toNat < d := Nat.not_lt.2 hd
    refine ⟨e.toNat + reads.length + 1, reads ++ [.ok (status :: ackSentinel)], fun _ => ?_, fun h => absurd h hlt,
      fun h => absurd h hlt⟩
    rw [(hrun.snoc (busy_of_phase (ph := .ack) ht)).runChip_eq,
      chipStep_of_ack (s := s.pollAt .ack reads e) ht rfl hs ha]
    exact ⟨rfl, rfl, rfl, rfl, congrArg State.trace (logRead_pollAt s .ack reads e _)⟩
  · obtain ⟨reads, -, hrun⟩ := chipRun_ackDeadline ht he hp fun u hu => hn u (hu.trans_lt (not_le.1 hd))
    refine ⟨s.tAck.toNat + reads.length, reads, fun hle => absurd hle hd, fun _ hr => ?_, fun _ hr => ?_⟩
    · rw [hrun.runChip_eq]
      obtain ⟨htx, herr, -, htrace⟩ := ackDeadline_pollAt_of_no_retry reads hr
      exact ⟨htx, herr, htrace⟩
    · rw [hrun.runChip_eq]
      exact ht ▸ ackDeadline_pollAt_of_retry reads hr

end Sys2Proof.Machine
end

section
/-! SUPPORT. The bus trace of a transaction (41_handshake.md R178): what the own steps of each wait phase add to it until
the transaction is over, by induction on the number of steps left. -/

namespace Sys2Proof.Machine

/-! ### The response phase -/

/-- A response poll that does not wait on ends the transaction (41_handshake.md R173 to R176). -/
theorem pollResp_waits_or_ends (s : State) : (pollResp s).txstate = s.txstate ∨ (pollResp s).busy = false := by
  have ho := pollResp_outcome s
  generalize pollResp s = t at ho
  cases ho with
  | wait => exact .inl rfl
  | _ => exact .inr rfl

/-- The response phase adds response reads, at least one. -/
theorem trace_runOwn_of_responseWait (n : Nat) {s : State} (ht : s.txstate = .responseWait)
    (hend : (runOwn n s).busy = false) : ∃ r : List ReadAnswer, r ≠ [] ∧
      (runOwn n s).trace = s.trace ++ r.map (.read s.params.i2cAddr 263 ·) := by
  induction n generalizing s with
  | zero => rw [runOwn, (busy_iff s).2 (.inr ht)] at hend; cases hend
  | succ n ih =>
    rw [runOwn, if_pos ((busy_iff s).2 (.inr ht))] at hend ⊢
    have ho := ownStep_outcome s
    generalize ownStep s = t at ho hend ⊢
    cases ho with
    | ack hd => simp [((pollAckDue_iff s).1 hd).1] at ht
    | resp hd =>
      have htrace := pollResp_trace s
      rcases pollResp_waits_or_ends s with hwait | hover
      · obtain ⟨r, -, hr⟩ := ih (hwait.trans ht) hend
        refine ⟨s.nextRead 263 :: r, List.cons_ne_nil _ _, ?_⟩
        rw [hr, htrace, (State.Extends.refl s).pollResp.params, List.append_assoc, List.map_cons, List.singleton_append]
      · rw [runOwn_of_not_busy hover]
        exact ⟨[s.nextRead 263], List.cons_ne_nil _ _, htrace⟩
    | tick =>
      obtain ⟨e, he⟩ := tickState_eq s
      rw [he] at hend ⊢
      exact ih (s := { s with elapsed := e }) ht hend

/-! ### Answers that are the ACK -/

/-- The answer that the ACK poll looks for (41_handshake.md R166). -/
def IsReadyAck (mask : Byte) (a : ReadAnswer) : Prop :=
  ∃ status : Byte, status &&& mask ≠ 0 ∧ a = .ok (status :: ackSentinel)

theorem not_isReadyAck_ioErr (mask : Byte) (info : Nat) : ¬ IsReadyAck mask (.ioErr info) := nofun

theorem not_isReadyAck_of_not_usable {mask : Byte} {buf : Bytes} (h : ackUsable mask buf = false) :
    ¬ IsReadyAck mask (.ok buf) := by
  rintro ⟨status, hs, ha⟩
  cases ha
  exact ((ackUsable_eq_false_iff _ _).1 h).elim (by simp [ackSentinel]) hs

theorem not_isReadyAck_of_mismatch {mask : Byte} {buf : Bytes} (h : isAckBytes (slice buf 1 7) = false) :
    ¬ IsReadyAck mask (.ok buf) := by
  rintro ⟨status, hs, ha⟩
  cases ha
  exact absurd h (by simp [slice, ackSentinel, isAckBytes, Config.ackLen])

/-! ### The ACK phase -/

/-- A failure that the ACK phase has: of the write, of a read, of the deadline or of the comparison. -/
def State.FailedBeforeResponse (t : State) : Prop :=
  t.txstate = .failed ∧ (t.err = .ioError ∨ t.err = .ackTimeout ∨ t.err = .ackMismatch)

/-- What a transaction in `AckWait` in `s` adds to the trace until its end in `t`: the ACK reads of the first attempt, the
re-send, the ACK reads of the second attempt, the response reads. Without response reads no ACK was seen. -/
structure AckPhaseTrace (s t : State) (a1 : List ReadAnswer) (again : List WriteAnswer) (a2 r : List ReadAnswer) :
    Prop where
  trace : t.trace = s.trace ++ a1.map (.read s.params.i2cAddr 7 ·) ++ again.map (.write s.params.i2cAddr s.txbuf ·) ++
    a2.map (.read s.params.i2cAddr 7 ·) ++ r.map (.read s.params.i2cAddr 263 ·)
  polled : a1 ≠ []
  retry : again = [] ∧ a2 = [] ∨ again = [.ok] ∧ a2 ≠ [] ∨ (∃ info, again = [.ioErr info]) ∧ a2 = [] ∧ r = []
  unseen : r = [] → (∀ a ∈ a1 ++ a2, ¬ IsReadyAck s.params.readyMask.val a) ∧ t.FailedBeforeResponse

section
variable {s t u : State} {a : ReadAnswer} {a1 a2 r : List ReadAnswer} {again : List WriteAnswer}

/-- Steps that wait on: ticks, and reads that are no ACK. -/
theorem AckPhaseTrace.after_waiting (new : List ReadAnswer) (h : AckPhaseTrace u t a1 again a2 r)
    (htrace : u.trace = s.trace ++ new.map (.read s.params.i2cAddr 7 ·)) (hparams : u.params = s.params)
    (htxbuf : u.txbuf = s.txbuf) (hnew : ∀ a ∈ new, ¬ IsReadyAck s.params.readyMask.val a) :
    AckPhaseTrace s t (new ++ a1) again a2 r := by
  obtain ⟨htr, hpolled, hretry, hunseen⟩ := h
  rw [hparams] at htr hunseen
  refine ⟨by rw [htr, htrace, htxbuf]; simp, List.append_ne_nil_of_right_ne_nil _ hpolled, hretry, fun hr => ?_⟩
  obtain ⟨hall, hfail⟩ := hunseen hr
  refine ⟨fun a ha => ?_, hfail⟩
  rw [List.append_assoc, List.mem_append] at ha
  exact ha.elim (hnew a) (hall a)

/-- A poll that fails the transaction. -/
theorem ackPhaseTrace_of_failure (htrace : t.trace = s.trace ++ [.read s.params.i2cAddr 7 a])
    (ha : ¬ IsReadyAck s.params.readyMask.val a) (hfail : t.FailedBeforeResponse) :
    AckPhaseTrace s t [a] [] [] [] :=
  ⟨by simpa using htrace, List.cons_ne_nil _ _, .inl ⟨rfl, rfl⟩, fun _ => ⟨by simpa using ha, hfail⟩⟩

/-- A poll that sees the ACK, and the response phase after it. -/
theorem ackPhaseTrace_of_seen
    (htrace : t.trace = s.trace ++ [.read s.params.i2cAddr 7 a] ++ r.map (.read s.params.i2cAddr 263 ·)) (hr : r ≠ []) :
    AckPhaseTrace s t [a] [] [] r :=
  ⟨by simpa using htrace, List.cons_ne_nil _ _, .inl ⟨rfl, rfl⟩, fun h => absurd h hr⟩

/-- A re-send that fails. -/
theorem ackPhaseTrace_of_resendError {info : Nat}
    (htrace : t.trace = s.trace ++ [.read s.params.i2cAddr 7 a] ++ [.write s.params.i2cAddr s.txbuf (.ioErr info)])
    (ha : ¬ IsReadyAck s.params.readyMask.val a) (hfail : t.FailedBeforeResponse) :
    AckPhaseTrace s t [a] [.ioErr info] [] [] :=
  ⟨by simpa using htrace, List.cons_ne_nil _ _, .inr (.inr ⟨⟨info, rfl⟩, rfl, rfl⟩),
    fun _ => ⟨by simpa using ha, hfail⟩⟩

/-- A re-send that is accepted, and the second attempt after it. -/
theorem AckPhaseTrace.after_resend (h : AckPhaseTrace u t a1 [] a2 r)
    (htrace : u.trace = s.trace ++ [.read s.params.i2cAddr 7 a] ++ [.write s.params.i2cAddr s.txbuf .ok])
    (hparams : u.params = s.params) (ha : ¬ IsReadyAck s.params.readyMask.val a) :
    AckPhaseTrace s t [a] [.ok] a1 r := by
  obtain ⟨htr, hpolled, hretry, hunseen⟩ := h
  obtain rfl : a2 = [] := by simpa using hretry
  rw [hparams] at htr hunseen
  refine ⟨by rw [htr, htrace]; simp, List.cons_ne_nil _ _, .inr (.inl ⟨rfl, hpolled⟩), fun hr => ?_⟩
  obtain ⟨hall, hfail⟩ := hunseen hr
  refine ⟨fun b hb => ?_, hfail⟩
  rcases List.mem_cons.1 hb with rfl | hb
  · exact ha
  · exact hall b (by simpa using hb)

theorem AckPhaseTrace.one_resend (h : AckPhaseTrace s t a1 again a2 r) : again.length ≤ 1 := by
  rcases h.retry with ⟨rfl, -⟩ | ⟨rfl, -⟩ | ⟨⟨_, rfl⟩, -⟩
  · exact Nat.zero_le 1
  · exact le_rfl
  · exact le_rfl

theorem AckPhaseTrace.no_second_attempt (h : AckPhaseTrace s t a1 [] a2 r) : a2 = [] := by simpa using h.retry

theorem AckPhaseTrace.second_polled (h : AckPhaseTrace s t a1 [.ok] a2 r) : a2 ≠ [] := by simpa using h.retry

theorem AckPhaseTrace.nothing_after_resendError {info : Nat} (h : AckPhaseTrace s t a1 [.ioErr info] a2 r) :
    a2 = [] ∧ r = [] := by
  simpa using h.retry

theorem AckPhaseTrace.response_of_seen (h : AckPhaseTrace s t a1 again a2 r) (ha : IsReadyAck s.params.readyMask.val a)
    (hmem : a ∈ a1 ++ a2) : r ≠ [] := by
  intro hr
  obtain ⟨hall, -⟩ := h.unseen hr
  exact hall a hmem ha

/-- An end that only the response phase has. -/
theorem AckPhaseTrace.response_of_late_end (h : AckPhaseTrace s t a1 again a2 r)
    (hlate : t.txstate = .done ∨ t.err = .responseTimeout ∨ t.err = .malformedFrame ∨ t.err = .opcodeMismatch ∨
      t.err = .unexpectedAck) : r ≠ [] := by
  intro hr
  obtain ⟨-, htx, herr⟩ := h.unseen hr
  rw [htx] at hlate
  rcases herr with herr | herr | herr <;> simp [herr] at hlate

end

/-- The ACK phase and what follows it; without the retry there is no re-send. -/
theorem ackPhaseTrace_runOwn (n : Nat) {s : State} (ht : s.txstate = .ackWait) (hend : (runOwn n s).busy = false) :
    ∃ a1 again a2 r, AckPhaseTrace s (runOwn n s) a1 again a2 r ∧ (s.retryLeft = false → again = []) := by
  induction n generalizing s with
  | zero => rw [runOwn, (busy_iff s).2 (.inl ht)] at hend; cases hend
  | succ n ih =>
    rw [runOwn, if_pos ((busy_iff s).2 (.inl ht))] at hend ⊢
    have ho := ownStep_outcome s
    generalize ownStep s = t at ho hend ⊢
    cases ho with
    | resp hd => simp [((pollRespDue_iff s).1 hd).1] at ht
    | tick =>
      obtain ⟨e, he⟩ := tickState_eq s
      rw [he] at hend ⊢
      obtain ⟨a1, again, a2, r, h, hr⟩ := ih (s := { s with elapsed := e }) ht hend
      exact ⟨_, _, _, _, h.after_waiting (s := s) [] (List.append_nil _).symm rfl rfl nofun, hr⟩
    | ack hd =>
      have ho := pollAck_outcome s
      generalize pollAck s = t at ho hend ⊢
      cases ho with
      | readError info h =>
        rw [runOwn_of_not_busy rfl]
        exact ⟨_, _, _, _, ackPhaseTrace_of_failure rfl (h ▸ not_isReadyAck_ioErr _ info) ⟨rfl, .inl rfl⟩, fun _ => rfl⟩
      | timeout buf h hu =>
        rw [runOwn_of_not_busy rfl]
        exact ⟨_, _, _, _, ackPhaseTrace_of_failure rfl (h ▸ not_isReadyAck_of_not_usable hu) ⟨rfl, .inr (.inl rfl)⟩,
          fun _ => rfl⟩
      | mismatch buf h hu ha =>
        rw [runOwn_of_not_busy rfl]
        exact ⟨_, _, _, _, ackPhaseTrace_of_failure rfl (h ▸ not_isReadyAck_of_mismatch ha) ⟨rfl, .inr (.inr rfl)⟩,
          fun _ => rfl⟩
      | wait buf h hu =>
        obtain ⟨a1, again, a2, r, hrest, hr⟩ := ih (s := (s.afterRead Config.ackReadLen).schedulePoll s.tAck) ht hend
        refine ⟨_, _, _, _, hrest.after_waiting (s := s) [s.nextRead 7] rfl rfl rfl ?_, hr⟩
        simpa [h] using not_isReadyAck_of_not_usable hu
      | resend buf h hu hl hr hw =>
        obtain ⟨a1, again, a2, r, hrest, hnone⟩ := ih (s := resent s) ht hend
        obtain rfl := hnone rfl
        refine ⟨_, _, _, _, hrest.after_resend (s := s) (a := s.nextRead 7) (hw ▸ rfl) rfl
          (h ▸ not_isReadyAck_of_not_usable hu), ?_⟩
        simp [hr]
      | resendError buf info h hu hl hr hw =>
        rw [runOwn_of_not_busy rfl]
        refine ⟨_, _, _, _, ackPhaseTrace_of_resendError (a := s.nextRead 7) (info := info) (hw ▸ rfl)
          (h ▸ not_isReadyAck_of_not_usable hu) ⟨rfl, .inl rfl⟩, ?_⟩
        simp [hr]
      | seen buf h hu ha =>
        obtain ⟨r, hne, htrace⟩ := trace_runOwn_of_responseWait n (s := (s.afterRead Config.ackReadLen).enterResponseWait)
          rfl hend
        exact ⟨_, _, _, _, ackPhaseTrace_of_seen (s := s) htrace hne, fun _ => rfl⟩

/-! ### The transaction -/

/-- Settles O60: a failed write ends the transaction, and an accepted one begins the ACK phase. -/
theorem transactionTraceShape : Obligations.TransactionTraceShape := by
  rintro op p ta tr s t ⟨hbusy, hawake⟩ hp rfl
  have hr : startRefusal p s = none := (startRefusal_eq_none_iff p s).2 ⟨hbusy, .inr hp⟩
  have hend : (transact op p ta tr s).busy = false := runOwn_ends _ _ (timersOk_startTaken hr) le_rfl
  rw [← infoFrameBytes_eq_wireFrame 0xD4 op (by omega)]
  have ho := startTaken_outcome op p ta tr s
  rw [transact, settle] at hend ⊢
  generalize startTaken op p ta tr s = u at ho hend ⊢
  cases ho with
  | asleep hd => exact absurd hd hawake
  | writeError info hd hw =>
    have hwrite : (s.latchCommand op p ta tr).nextWrite = .ioErr info := hw
    rw [runOwn_of_not_busy rfl]
    exact ⟨.ioErr info, [], [], [], [], by simp [hwrite], by simp [Failure.kind]⟩
  | sent hd hw =>
    obtain ⟨a1, again, a2, r, h, -⟩ := ackPhaseTrace_runOwn _ rfl hend
    refine ⟨.ok, a1, a2, r, again, h.trace.trans (by rw [← hw]; rfl), h.one_resend, ?_, fun hne => absurd rfl hne,
      fun _ => List.length_pos_iff.2 h.polled, ?_, ?_,
      fun status hs hmem => List.length_pos_iff.2 (h.response_of_seen ⟨status, hs, rfl⟩ hmem),
      fun hlate => List.length_pos_iff.2 (h.response_of_late_end hlate)⟩
    · rintro rfl
      exact h.no_second_attempt
    · rintro rfl
      exact List.length_pos_iff.2 h.second_polled
    · rintro info rfl
      exact h.nothing_after_resendError

end Sys2Proof.Machine
end

section
/-! SUPPORT. The system operations and the sleeping block (42_system.md): `WAKE` and `RESET` by their equations, what puts the
block to sleep, and what a sleeping block does. -/

namespace Sys2Proof.Machine

/-! ### WAKE and RESET -/

theorem exec_wake_of_asleep {s : State} (hd : s.devstate = .poweredDown) :
    exec .wake s = .next { s with devstate := .idle } := by
  rw [exec, execWake, if_pos hd]

theorem exec_wake_of_awake {s : State} (hd : s.devstate ≠ .poweredDown) : exec .wake s = .next s := by
  rw [exec, execWake, if_neg hd]

/-- Settles O32: the two branches of `WAKE`. -/
theorem wakeOnlyLiftsPowerDown : Obligations.WakeOnlyLiftsPowerDown := fun _ =>
  ⟨exec_wake_of_asleep, exec_wake_of_awake⟩

theorem exec_reset (s : State) : exec .reset s = .next s.resetRegisters := rfl

/-- Settles O33: `resetRegisters` writes each register the value of the table, and the model's `IOERR_INFO` is 0. -/
theorem resetRestoresEveryRegister : Obligations.ResetRestoresEveryRegister := fun s => ⟨0, exec_reset s⟩

/-! ### What puts the block to sleep -/

/-- A block asleep has completed the power-down command (42_system.md R207 (1)). -/
def State.SleepsByPowerDown (s : State) : Prop :=
  s.devstate = .poweredDown → s.txstate = .done ∧ s.cmdOpcode = 0x16 ∧ s.respOpcode = 0x17

theorem sleepsByPowerDown_of_awake {s : State} (hd : s.devstate ≠ .poweredDown) : s.SleepsByPowerDown :=
  fun h => absurd h hd

theorem State.SleepsByPowerDown.awake_of_busy {s : State} (h : s.SleepsByPowerDown) (hb : s.busy = true) :
    s.devstate ≠ .poweredDown := by
  intro hd
  obtain ⟨hdone, -, -⟩ := h hd
  simp [State.busy, hdone] at hb

theorem startTaken_awake {s : State} (op : Byte) (p : Bytes) (ta tr : Option Timer) (hd : s.devstate ≠ .poweredDown) :
    (startTaken op p ta tr s).devstate ≠ .poweredDown := by
  have ho := startTaken_outcome op p ta tr s
  generalize startTaken op p ta tr s = t at ho
  cases ho with
  | asleep h => exact absurd h hd
  | sent | writeError => nofun

theorem pollAck_awake {s : State} (hd : s.devstate ≠ .poweredDown) : (pollAck s).devstate ≠ .poweredDown := by
  have ho := pollAck_outcome s
  generalize pollAck s = t at ho
  cases ho with
  | wait | resend => exact hd
  | readError | resendError | timeout | seen | mismatch => nofun

/-- A response poll puts the block to sleep by completing, with the correlated response, the power-down command only
(41_handshake.md R175, R176). -/
theorem sleepsByPowerDown_pollResp {s : State} (hd : s.devstate ≠ .poweredDown) : (pollResp s).SleepsByPowerDown := by
  have ho := pollResp_outcome s
  generalize pollResp s = t at ho
  cases ho with
  | wait => exact sleepsByPowerDown_of_awake hd
  | readError | timeout | unexpectedAck | malformed | badDirection | mismatch => nofun
  | completed buf op p _ _ _ hop =>
    intro hsleep
    have hcmd : s.cmdOpcode = 0x16 := by
      by_contra hne
      rw [complete_devstate, State.afterRead_cmdOpcode, if_neg hne] at hsleep
      cases hsleep
    exact ⟨rfl, hcmd, by simp [hop, hcmd]⟩

theorem sleepsByPowerDown_ownStep {s : State} (hd : s.devstate ≠ .poweredDown) : (ownStep s).SleepsByPowerDown := by
  have ho := ownStep_outcome s
  generalize ownStep s = t at ho
  cases ho with
  | ack => exact sleepsByPowerDown_of_awake (pollAck_awake hd)
  | resp => exact sleepsByPowerDown_pollResp hd
  | tick =>
    obtain ⟨e, he⟩ := tickState_eq s
    exact he ▸ sleepsByPowerDown_of_awake hd

theorem sleepsByPowerDown_transact {s : State} (op : Byte) (p : Bytes) (ta tr : Option Timer)
    (hd : s.devstate ≠ .poweredDown) : (transact op p ta tr s).SleepsByPowerDown :=
  runOwn_keeps (fun _ hb h => sleepsByPowerDown_ownStep (h.awake_of_busy hb)) _ _
    (sleepsByPowerDown_of_awake (startTaken_awake op p ta tr hd))

theorem sleepsByPowerDown_receive {s : State} (b : Bytes) (hd : s.devstate ≠ .poweredDown) :
    (receive b s).SleepsByPowerDown := by
  have ho := receive_outcome b s
  generalize receive b s = t at ho
  cases ho with
  | ack => exact sleepsByPowerDown_of_awake (pollAck_awake (s := s.present b) hd)
  | resp => exact sleepsByPowerDown_pollResp (s := s.present b) hd
  | held => exact sleepsByPowerDown_of_awake hd

theorem startTaken_cmdOpcode {s : State} (op : Byte) (p : Bytes) (ta tr : Option Timer)
    (hd : s.devstate ≠ .poweredDown) : (startTaken op p ta tr s).cmdOpcode = op := by
  have ho := startTaken_outcome op p ta tr s
  generalize startTaken op p ta tr s = t at ho
  cases ho with
  | asleep h => exact absurd h hd
  | sent | writeError => rfl

theorem ownStep_cmdOpcode (s : State) : (ownStep s).cmdOpcode = s.cmdOpcode := by
  have ho := ownStep_outcome s
  generalize ownStep s = t at ho
  cases ho with
  | ack => exact (pollAck_sameCommand s).1
  | resp => exact (pollResp_sameCommand s).1
  | tick =>
    obtain ⟨e, he⟩ := tickState_eq s
    rw [he]

theorem transact_cmdOpcode {s : State} (op : Byte) (p : Bytes) (ta tr : Option Timer) (hd : s.devstate ≠ .poweredDown) :
    (transact op p ta tr s).cmdOpcode = op :=
  runOwn_keeps (P := fun t => t.cmdOpcode = op) (fun t _ h => (ownStep_cmdOpcode t).trans h) _ _
    (startTaken_cmdOpcode op p ta tr hd)

/-- A transaction of another command than the power-down leaves the block awake. -/
theorem transact_awake {s : State} {op : Byte} (p : Bytes) (ta tr : Option Timer) (hd : s.devstate ≠ .poweredDown)
    (hop : op ≠ 0x16) : (transact op p ta tr s).devstate ≠ .poweredDown := by
  intro hsleep
  obtain ⟨-, hcmd, -⟩ := sleepsByPowerDown_transact op p ta tr hd hsleep
  exact hop ((transact_cmdOpcode op p ta tr hd).symm.trans hcmd)

/-- Settles O52: an instruction that runs in an awake block puts it to sleep by a response poll only, its own or one of a
transaction; the first transaction of `SETUP` leaves the block awake for the second. -/
theorem onlyPowerDownCommandSleeps : Obligations.OnlyPowerDownCommandSleeps := by
  intro i s t hx hd
  change t.SleepsByPowerDown
  cases exec_outcome hx with
  | returned => exact sleepsByPowerDown_of_awake hd
  | started op p ta tr => exact sleepsByPowerDown_of_awake (startTaken_awake op p ta tr hd)
  | polledAck => exact sleepsByPowerDown_of_awake (pollAck_awake hd)
  | polledResp => exact sleepsByPowerDown_pollResp hd
  | ticked =>
    obtain ⟨e, he⟩ := tickState_eq s
    exact he ▸ sleepsByPowerDown_of_awake hd
  | woken => exact sleepsByPowerDown_of_awake (by simp [hd])
  | reset => exact sleepsByPowerDown_of_awake nofun
  | received b => exact sleepsByPowerDown_receive b hd
  | transacted op p ta tr => exact sleepsByPowerDown_transact op p ta tr hd
  | setUp u r n hr hu =>
    have hfirst : u.devstate ≠ .poweredDown := hu ▸ transact_awake _ none none hd (by decide)
    exact sleepsByPowerDown_transact 0x32 u.params.rfPayload.val none none hfirst

/-! ### The sleeping block -/

/-- A block sleeps in a terminal state only (10_state.md R23). -/
theorem State.Inv.not_busy_of_asleep {s : State} (h : s.Inv) (hd : s.devstate = .poweredDown) : s.busy = false := by
  have hc := h.coupled
  unfold State.Coupled at hc
  refine (busy_eq_false_iff s).2 ⟨fun ht => ?_, fun ht => ?_⟩ <;> simp [ht, hd] at hc

theorem pollAckDue_of_not_busy {s : State} (hb : s.busy = false) : s.pollAckDue = false :=
  Bool.eq_false_iff.2 fun hd => ((busy_eq_false_iff s).1 hb).1 ((pollAckDue_iff s).1 hd).1

theorem pollRespDue_of_not_busy {s : State} (hb : s.busy = false) : s.pollRespDue = false :=
  Bool.eq_false_iff.2 fun hd => ((busy_eq_false_iff s).1 hb).2 ((pollRespDue_iff s).1 hd).1

/-- 41_handshake.md R162 gate 2. -/
theorem startTaken_of_asleep {s : State} (op : Byte) (p : Bytes) (ta tr : Option Timer) (hd : s.devstate = .poweredDown) :
    startTaken op p ta tr s = s.failAsleep :=
  if_pos ((asleep_iff s).2 hd)

theorem transact_of_asleep {s : State} (op : Byte) (p : Bytes) (ta tr : Option Timer) (hd : s.devstate = .poweredDown) :
    transact op p ta tr s = s.failAsleep := by
  rw [transact, startTaken_of_asleep op p ta tr hd]
  exact runOwn_of_not_busy rfl _

/-- Settles O53: a sleeping block of the invariant is not in flight, so no poll is due and no tick counts, and a `START` fails
with `DeviceAsleep`. -/
theorem sleepingBlockStaysOffTheBus : Obligations.SleepingBlockStaysOffTheBus := by
  intro i s t h hd hx hwake hreset
  have hb := h.not_busy_of_asleep hd
  have ha := pollAckDue_of_not_busy hb
  have hr := pollRespDue_of_not_busy hb
  cases exec_outcome hx with
  | returned => exact ⟨hd, rfl⟩
  | started op p ta tr => exact startTaken_of_asleep op p ta tr hd ▸ ⟨hd, rfl⟩
  | polledAck hdue => rw [ha] at hdue; cases hdue
  | polledResp hdue => rw [hr] at hdue; cases hdue
  | ticked =>
    rw [tickState_of_not_busy hb]
    exact ⟨hd, rfl⟩
  | woken => exact absurd rfl hwake
  | reset => exact absurd rfl hreset
  | received b => exact receive_of_not_due b ha hr ▸ ⟨hd, rfl⟩
  | transacted op p ta tr => exact transact_of_asleep op p ta tr hd ▸ ⟨hd, rfl⟩
  | setUp u r n _ hu hf =>
    rw [transact_of_asleep _ _ _ _ hd] at hu
    subst hu
    cases hf

end Sys2Proof.Machine
end

section
/-! SUPPORT. A transaction run to its end (41_handshake.md R161, R175, R176, R179), as the controller layer sees it: the
command it latched, its writes, its correlated result, and its end with a chip that answers at once. -/

namespace Sys2Proof.Machine

/-! ### The command -/

theorem State.SameCommand.trans {s t u : State} (h : s.SameCommand t) (h' : t.SameCommand u) : s.SameCommand u := by
  obtain ⟨hop, hp, htx, hta, htr⟩ := h
  obtain ⟨hop', hp', htx', hta', htr'⟩ := h'
  exact ⟨hop'.trans hop, hp'.trans hp, htx'.trans htx, hta'.trans hta, htr'.trans htr⟩

theorem ownStep_sameCommand (s : State) : s.SameCommand (ownStep s) := by
  have ho := ownStep_outcome s
  generalize ownStep s = t at ho
  cases ho with
  | ack => exact pollAck_sameCommand s
  | resp => exact pollResp_sameCommand s
  | tick =>
    obtain ⟨e, he⟩ := tickState_eq s
    exact he ▸ ⟨rfl, rfl, rfl, rfl, rfl⟩

theorem startTaken_sameCommand_transact (op : Byte) (p : Bytes) (ta tr : Option Timer) (s : State) :
    (startTaken op p ta tr s).SameCommand (transact op p ta tr s) :=
  runOwn_keeps (P := (startTaken op p ta tr s).SameCommand) (fun t _ h => h.trans (ownStep_sameCommand t)) _ _
    ⟨rfl, rfl, rfl, rfl, rfl⟩

theorem latchCommand_sameCommand_startTaken {s : State} (op : Byte) (p : Bytes) (ta tr : Option Timer)
    (hd : s.devstate ≠ .poweredDown) : (s.latchCommand op p ta tr).SameCommand (startTaken op p ta tr s) := by
  have ho := startTaken_outcome op p ta tr s
  generalize startTaken op p ta tr s = t at ho
  cases ho with
  | asleep h => exact absurd h hd
  | sent | writeError => exact ⟨rfl, rfl, rfl, rfl, rfl⟩

/-- An awake block keeps the command that it latched, to the end of the transaction (10_state.md R39). -/
theorem latchCommand_sameCommand_transact {s : State} (op : Byte) (p : Bytes) (ta tr : Option Timer)
    (hd : s.devstate ≠ .poweredDown) : (s.latchCommand op p ta tr).SameCommand (transact op p ta tr s) :=
  (latchCommand_sameCommand_startTaken op p ta tr hd).trans (startTaken_sameCommand_transact op p ta tr s)

/-! ### The writes -/

/-- The transaction of a ready block begins with the write of its frame, and writes nothing else
(41_handshake.md R178). -/
theorem transact_trace_of_ready {s : State} {p : Bytes} (op : Byte) (ta tr : Option Timer) (hs : s.ready)
    (hp : p.length ≤ 252) : ∃ a rest,
    (transact op p ta tr s).trace = s.trace ++ .write s.params.i2cAddr (wireFrame 0xD4 op p) a :: rest ∧
    ∀ e ∈ rest, ∀ addr b w, e = .write addr b w → b = wireFrame 0xD4 op p := by
  obtain ⟨first, a1, a2, r, again, htrace, -⟩ := transactionTraceShape op p ta tr s _ hs hp rfl
  refine ⟨first, _, htrace.trans (by simp only [List.append_assoc, List.cons_append, List.nil_append]; rfl), ?_⟩
  rintro e he addr b w rfl
  simp only [List.mem_append, List.mem_map, reduceCtorEq, and_false, exists_false, or_false, false_or,
    BusEvent.write.injEq] at he
  obtain ⟨-, -, -, hb, -⟩ := he
  exact hb.symm

/-- What the transaction of a ready block sends, and the command it leaves in the registers. -/
theorem transact_sends {s : State} {p : Bytes} (op : Byte) (ta tr : Option Timer) (hs : s.ready)
    (hp : p.length ≤ 252) :
    ∃ a rest,
      (transact op p ta tr s).trace = s.trace ++ .write s.params.i2cAddr (wireFrame 0xD4 op p) a :: rest ∧
      (∀ e ∈ rest, ∀ addr b w, e = .write addr b w → b = wireFrame 0xD4 op p) ∧
      (transact op p ta tr s).cmdOpcode = op ∧ (transact op p ta tr s).cmdPayload = p ∧
      (transact op p ta tr s).tAck = ackTimeoutOperand ta ∧
      (transact op p ta tr s).tResp = respTimeoutOperand s.params tr := by
  obtain ⟨a, rest, htrace, hwrites⟩ := transact_trace_of_ready op ta tr hs hp
  obtain ⟨hop, hpayload, -, hta, htr⟩ := latchCommand_sameCommand_transact op p ta tr hs.2
  exact ⟨a, rest, htrace, hwrites, hop, hpayload, hta, htr⟩

/-! ### The result -/

/-- A transaction that is over with success has the correlated response, and the power-down command alone puts the
block to sleep (41_handshake.md R175, R176). -/
def State.EndsCorrelated (s : State) : Prop :=
  s.txstate = .done →
    s.respOpcode = s.cmdOpcode + 1 ∧ s.devstate = if s.cmdOpcode = 0x16 then .poweredDown else .idle

theorem endsCorrelated_of_not_done {s : State} (h : s.txstate ≠ .done) : s.EndsCorrelated := fun hd => absurd hd h

theorem endsCorrelated_startTaken (op : Byte) (p : Bytes) (ta tr : Option Timer) (s : State) :
    (startTaken op p ta tr s).EndsCorrelated := by
  have ho := startTaken_outcome op p ta tr s
  generalize startTaken op p ta tr s = t at ho
  cases ho <;> exact endsCorrelated_of_not_done nofun

theorem endsCorrelated_pollAck {s : State} (h : s.EndsCorrelated) : (pollAck s).EndsCorrelated := by
  have ho := pollAck_outcome s
  generalize pollAck s = t at ho
  cases ho with
  | wait | resend => exact h
  | readError | resendError | timeout | seen | mismatch => exact endsCorrelated_of_not_done nofun

theorem endsCorrelated_pollResp {s : State} (h : s.EndsCorrelated) : (pollResp s).EndsCorrelated := by
  have ho := pollResp_outcome s
  generalize pollResp s = t at ho
  cases ho with
  | wait => exact h
  | completed buf op p _ _ _ hop => exact fun _ => ⟨hop, rfl⟩
  | readError | timeout | unexpectedAck | malformed | badDirection | mismatch =>
    exact endsCorrelated_of_not_done nofun

theorem endsCorrelated_ownStep {s : State} (h : s.EndsCorrelated) : (ownStep s).EndsCorrelated := by
  have ho := ownStep_outcome s
  generalize ownStep s = t at ho
  cases ho with
  | ack => exact endsCorrelated_pollAck h
  | resp => exact endsCorrelated_pollResp h
  | tick =>
    obtain ⟨e, he⟩ := tickState_eq s
    exact he ▸ h

theorem endsCorrelated_transact (op : Byte) (p : Bytes) (ta tr : Option Timer) (s : State) :
    (transact op p ta tr s).EndsCorrelated :=
  runOwn_keeps (P := State.EndsCorrelated) (fun _ _ => endsCorrelated_ownStep) _ _
    (endsCorrelated_startTaken op p ta tr s)

theorem awake_of_transact_done {s : State} {op : Byte} {p : Bytes} {ta tr : Option Timer}
    (h : (transact op p ta tr s).txstate = .done) : s.devstate ≠ .poweredDown := by
  intro hd
  rw [transact_of_asleep op p ta tr hd] at h
  cases h

/-- The result of a transaction that succeeds, by its command. -/
theorem transact_done {s : State} {op : Byte} {p : Bytes} {ta tr : Option Timer}
    (h : (transact op p ta tr s).txstate = .done) :
    (transact op p ta tr s).respOpcode = op + 1 ∧
      (transact op p ta tr s).devstate = if op = 0x16 then .poweredDown else .idle := by
  have hend := endsCorrelated_transact op p ta tr s h
  rwa [transact_cmdOpcode op p ta tr (awake_of_transact_done h)] at hend

/-! ### A chip that answers at once -/

/-- A transaction that its second own step ends. -/
theorem settle_of_two_steps {s : State} (hbudget : 2 ≤ stepBudget s) (h0 : s.busy = true)
    (h1 : (ownStep s).busy = true) (h2 : (ownStep (ownStep s)).busy = false) : settle s = ownStep (ownStep s) := by
  obtain ⟨n, hn⟩ := Nat.exists_eq_add_of_le' hbudget
  rw [settle, hn, runOwn, if_pos h0, runOwn, if_pos h1, runOwn_of_not_busy h2]

theorem afterWrite_of_cons {s : State} {a : WriteAnswer} {writes : List WriteAnswer} (b : Bytes)
    (h : s.writeAns = a :: writes) :
    s.afterWrite b = { s with trace := s.trace ++ [.write s.params.i2cAddr b a], writeAns := writes } := by
  simp [State.afterWrite, nextWrite_of_cons h, h]

theorem afterRead_of_fits {s : State} {n : Nat} {buf : Bytes} {reads : List ReadAnswer}
    (h : s.readAns = .ok buf :: reads) (hn : buf.length ≤ n) :
    s.afterRead n = { s with trace := s.trace ++ [.read s.params.i2cAddr n (.ok buf)], readAns := reads } := by
  simp [State.afterRead, nextRead_of_fits h hn, h]

/-- In `AckWait`, the command sent by a write that took the first listed answer. -/
def State.commandSent (s : State) (op : Byte) (p : Bytes) (ta tr : Option Timer) (writes : List WriteAnswer) : State :=
  State.enterAckWait
    { s.latchCommand op p ta tr with
      txbuf := wireFrame 0xD4 op p
      trace := s.trace ++ [.write s.params.i2cAddr (wireFrame 0xD4 op p) .ok]
      writeAns := writes }

theorem startTaken_of_ready {s : State} {p : Bytes} {writes : List WriteAnswer} (op : Byte) (ta tr : Option Timer)
    (hs : s.ready) (hp : p.length ≤ 252) (hw : s.writeAns = .ok :: writes) :
    startTaken op p ta tr s = s.commandSent op p ta tr writes := by
  obtain ⟨-, htaken⟩ :=
    (startOp_eq_next_iff op p ta tr s _).1 (startOp_of_ready op ta tr hs hp (nextWrite_of_cons hw))
  rw [← htaken, afterWrite_of_cons (s := s.latchCommand op p ta tr) _ hw, State.commandSent,
    ← infoFrameBytes_eq_wireFrame 0xD4 op (by omega)]
  rfl

/-- In `ResponseWait`, the ACK seen by a read that took the first listed answer. -/
def State.ackHeard (s : State) (status : Byte) (reads : List ReadAnswer) : State :=
  State.enterResponseWait
    { s with trace := s.trace ++ [.read s.params.i2cAddr 7 (.ok (status :: ackSentinel))], readAns := reads }

theorem ownStep_of_ack {s : State} {status : Byte} {reads : List ReadAnswer} (ht : s.txstate = .ackWait)
    (hd : s.elapsed = s.nextpoll) (hs : status &&& s.params.readyMask.val ≠ 0)
    (hr : s.readAns = .ok (status :: ackSentinel) :: reads) : ownStep s = s.ackHeard status reads := by
  rw [ownStep, if_pos ((pollAckDue_iff s).2 ⟨ht, hd⟩), pollAck_of_ready (nextRead_of_fits hr le_rfl) hs rfl,
    afterRead_of_fits (n := 7) hr le_rfl]
  rfl

theorem ownStep_of_response {s : State} {status : Byte} {q : Bytes} {reads : List ReadAnswer}
    (ht : s.txstate = .responseWait) (hd : s.elapsed = s.nextpoll) (hs : status &&& s.params.readyMask.val ≠ 0)
    (hq : q.length ≤ 253) (hr : s.readAns = .ok (status :: wireFrame 0xD5 (s.cmdOpcode + 1) q) :: reads) :
    ownStep s = complete (s.cmdOpcode + 1) q
      { s with
        trace := s.trace ++ [.read s.params.i2cAddr 263 (.ok (status :: wireFrame 0xD5 (s.cmdOpcode + 1) q))]
        readAns := reads } := by
  have hlen : (wireFrame 0xD5 (s.cmdOpcode + 1) q).length = q.length + 9 := by simp [wireFrame]
  have hfits : (status :: wireFrame 0xD5 (s.cmdOpcode + 1) q).length ≤ 263 := by rw [List.length_cons]; omega
  have hdue := (pollRespDue_iff s).2 ⟨ht, hd⟩
  have hack : ¬ s.pollAckDue = true := fun ha => by simp [not_pollRespDue_of_pollAckDue ha] at hdue
  have hdecode := decodeFrame_wireFrame_append 0xD5 (s.cmdOpcode + 1) q [] (.inr rfl) hq
  rw [List.append_nil] at hdecode
  rw [ownStep, if_neg hack, if_pos hdue, pollResp_of_ready (nextRead_of_fits hr hfits) hs (by omega), hdecode,
    checkResponse_ok, afterRead_of_fits hr hfits]
  exact if_pos rfl

/-- A transaction that the chip acknowledges and answers at the first polls (41_handshake.md R161, R166, R176). -/
theorem transact_of_answering_chip {s : State} {op st1 st2 : Byte} {p q : Bytes} {reads : List ReadAnswer}
    {writes : List WriteAnswer} (tr : Option Timer) (hs : s.ready) (hp : p.length ≤ 252) (hq : q.length ≤ 253)
    (h1 : st1 &&& s.params.readyMask.val ≠ 0) (h2 : st2 &&& s.params.readyMask.val ≠ 0)
    (hw : s.writeAns = .ok :: writes)
    (hr : s.readAns = .ok (st1 :: ackSentinel) :: .ok (st2 :: wireFrame 0xD5 (op + 1) q) :: reads) :
    transact op p none tr s = s.answered op p (respTimeoutOperand s.params tr) reads writes st1 st2 q := by
  have hack := ownStep_of_ack (s := s.commandSent op p none tr writes) rfl rfl h1 hr
  have hresp := ownStep_of_response
    (s := (s.commandSent op p none tr writes).ackHeard st1 (.ok (st2 :: wireFrame 0xD5 (op + 1) q) :: reads))
    rfl rfl h2 hq rfl
  have hbudget : 2 ≤ stepBudget (s.commandSent op p none tr writes) := by
    rw [stepBudget_ackWait rfl]
    omega
  rw [transact, startTaken_of_ready op none tr hs hp hw,
    settle_of_two_steps hbudget rfl (by rw [hack]; rfl) (by rw [hack, hresp]; rfl), hack, hresp]
  simp [State.answered, complete, State.ackHeard, State.enterResponseWait, State.commandSent, State.enterAckWait,
    State.latchCommand, ackSentinel, ackTimeoutOperand]

end Sys2Proof.Machine
end

section
/-! SUPPORT. The layout of a list response (43_controller_sequences.md R227): one target, then as many as the count
says. -/

namespace Sys2Proof.Machine

/-- What a target says of the tag beside its kind. -/
def Target.fields (t : Target) : Bytes × (Byte × Byte) × Byte := (t.uid, t.atqa, t.sak)

/-- The bytes of one target: UID length, UID, two ATQA bytes, SAK. -/
def targetBytes (f : Bytes × (Byte × Byte) × Byte) : Bytes :=
  BitVec.ofNat 8 f.1.length :: (f.1 ++ [f.2.1.1, f.2.1.2, f.2.2])

theorem length_byte {n : Nat} (h : n < 256) : (BitVec.ofNat 8 n).toNat = n := by
  rw [BitVec.toNat_ofNat, Nat.mod_eq_of_lt h]

/-- A target is read back from its bytes, whatever follows. -/
theorem parseTarget_targetBytes (tagKind : Nat) {f : Bytes × (Byte × Byte) × Byte} (rest : Bytes)
    (h : f.1.length < 256) :
    parseTarget tagKind (targetBytes f ++ rest) = some (⟨tagKind, f.1, f.2.1, f.2.2⟩, rest) := by
  simp [parseTarget, targetBytes, length_byte h]

theorem eq_targetBytes_of_parseTarget {tagKind : Nat} {b rest : Bytes} {t : Target}
    (h : parseTarget tagKind b = some (t, rest)) : t.uid.length < 256 ∧ b = targetBytes t.fields ++ rest := by
  unfold parseTarget at h
  split at h
  · cases h
  · next k r =>
    split at h
    · next a0 a1 sak rest' hdrop =>
      cases h
      have hlen : (r.take k.toNat).length = k.toNat := by
        have := congrArg List.length hdrop
        rw [List.length_drop, List.length_cons] at this
        rw [List.length_take]
        omega
      have hsplit : r = r.take k.toNat ++ a0 :: a1 :: sak :: rest := by rw [← hdrop, List.take_append_drop]
      refine ⟨hlen.trans_lt k.isLt, ?_⟩
      rw [targetBytes, Target.fields, hlen, BitVec.ofNat_toNat, BitVec.setWidth_eq]
      simpa using hsplit
    · cases h

theorem layout_of_parseTargetsFrom {draw n : Nat} {b : Bytes} {ts : List Target}
    (h : parseTargetsFrom draw n b = some ts) :
    ts.length = n ∧ (∀ t ∈ ts, t.uid.length < 256) ∧
      ∃ rest, b = (ts.map Target.fields).flatMap targetBytes ++ rest := by
  induction n generalizing draw b ts with
  | zero =>
    cases h
    exact ⟨rfl, nofun, b, rfl⟩
  | succ n ih =>
    unfold parseTargetsFrom at h
    split at h
    · cases h
    · next t rest ht =>
      obtain ⟨ts', hts, rfl⟩ := Option.map_eq_some_iff.1 h
      obtain ⟨huid, rfl⟩ := eq_targetBytes_of_parseTarget ht
      obtain ⟨hlen, huids, rest', rfl⟩ := ih hts
      refine ⟨by rw [List.length_cons, hlen], ?_, rest', ?_⟩
      · exact List.forall_mem_cons.2 ⟨huid, huids⟩
      · rw [List.map_cons, List.flatMap_cons, List.append_assoc]

theorem parseTargetsFrom_flatMap (draw : Nat) {fields : List (Bytes × (Byte × Byte) × Byte)} (rest : Bytes)
    (h : ∀ f ∈ fields, f.1.length < 256) :
    ∃ ts, parseTargetsFrom draw fields.length (fields.flatMap targetBytes ++ rest) = some ts ∧
      ts.map Target.fields = fields := by
  induction fields generalizing draw with
  | nil => exact ⟨[], rfl, rfl⟩
  | cons f fs ih =>
    obtain ⟨hf, hfs⟩ := List.forall_mem_cons.1 h
    obtain ⟨ts, hts, hfields⟩ := ih (draw + 1) hfs
    refine ⟨⟨Config.freeTagKind draw, f.1, f.2.1, f.2.2⟩ :: ts, ?_, by rw [List.map_cons, hfields]; rfl⟩
    rw [List.length_cons, parseTargetsFrom, List.flatMap_cons, List.append_assoc, parseTarget_targetBytes _ _ hf]
    simp [hts]

/-- Settles O45: the count byte gives the number of targets, and each target is read from its own bytes. -/
theorem parseTargetsReadsListedLayout : Obligations.ParseTargetsReadsListedLayout := by
  intro draw p fields
  constructor
  · rintro ⟨ts, hts, rfl⟩
    cases p with
    | nil => cases hts
    | cons n r =>
      obtain ⟨hlen, huids, rest, rfl⟩ := layout_of_parseTargetsFrom hts
      refine ⟨by rw [List.length_map, hlen]; exact n.isLt, ?_, rest, ?_⟩
      · simpa using huids
      · rw [List.length_map, hlen, BitVec.ofNat_toNat, BitVec.setWidth_eq]
        rfl
  · rintro ⟨hcount, hfields, rest, rfl⟩
    obtain ⟨ts, hts, hmap⟩ := parseTargetsFrom_flatMap draw rest hfields
    refine ⟨ts, ?_, hmap⟩
    rw [parseTargets, length_byte hcount]
    exact hts

end Sys2Proof.Machine
end

section
/-! SUPPORT. The sequences of the controller layer (43_controller_sequences.md): which transactions each runs, and
its typed result by how they end. -/

namespace Sys2Proof.Machine

/-! ### One transaction -/

/-- Outside a transaction in flight a payload within the bound is not refused (41_handshake.md R162). -/
theorem startRefusal_of_fits {s : State} {p : Bytes} (hb : s.busy = false) (hp : p.length ≤ 252) :
    startRefusal p s = none :=
  (startRefusal_eq_none_iff p s).2 ⟨hb, .inr hp⟩

/-- `PD_MASK` is a payload within the bound (43_controller_sequences.md R229). -/
theorem length_pdMask_le (s : State) : [s.params.pdMask].length ≤ 252 := Nat.le_add_left 1 251

theorem not_failed_of_done {s : State} (h : s.txstate = .done) : s.txstate ≠ .failed := by simp [h]

theorem not_done_of_failed {s : State} (h : s.txstate = .failed) : s.txstate ≠ .done := by simp [h]

theorem isFailed_of_failed {s : State} (h : s.txstate = .failed) : s.isFailed = true := beq_iff_eq.2 h

theorem not_isFailed_of_done {s : State} (h : s.txstate = .done) : ¬ s.isFailed = true := by
  simp [State.isFailed, h]

theorem returnUnlessFailed_of_failed {s : State} (f : State → State) (h : s.txstate = .failed) :
    returnUnlessFailed f s = s.returning (.failed s.err) :=
  if_pos (isFailed_of_failed h)

theorem returnUnlessFailed_of_done {s : State} (f : State → State) (h : s.txstate = .done) :
    returnUnlessFailed f s = f s :=
  if_neg (not_isFailed_of_done h)

theorem exec_getfw_of_not_busy {s : State} (hb : s.busy = false) : exec .getfw s =
    .next (returnUnlessFailed (fun t => t.returning (firmwareOf t.respPayload)) (transact 0x02 [] none none s)) := by
  rw [exec, execGetfw, startRefusal_of_fits hb (Nat.zero_le _)]

theorem exec_list_of_not_busy {s : State} (limit : Timer) (hb : s.busy = false) : exec (.list limit) s =
    .next (returnUnlessFailed listTargets (transact 0x4A s.params.listPayload.val none (some limit) s)) := by
  rw [exec, execList, startRefusal_of_fits hb s.params.listPayload.2]

theorem exec_pwrdown_of_not_busy {s : State} (hb : s.busy = false) : exec .pwrdown s =
    .next (returnUnlessFailed (fun t => t.returning .success) (transact 0x16 [s.params.pdMask] none none s)) := by
  rw [exec, execPwrdown, startRefusal_of_fits hb (length_pdMask_le s)]

/-! ### `GETFW` -/

theorem firmwareOf_of_length_ne {p : Bytes} (h : p.length ≠ 4) : firmwareOf p = .failed .protocolError := by
  unfold firmwareOf
  split
  · exact absurd rfl h
  · rfl

/-- Settles O40: the transaction of the firmware command, by its end. -/
theorem getfwReturnsFirmwareOrError : Obligations.GetfwReturnsFirmwareOrError := by
  intro s hb
  have hfits : ([] : Bytes).length ≤ 252 := Nat.zero_le _
  have hterminal := transact_terminal (op := 0x02) (ta := none) (tr := none) (startRefusal_of_fits hb hfits)
  have hsent (hd : s.devstate ≠ .poweredDown) := transact_sends 0x02 none none ⟨hb, hd⟩ hfits
  have hresult := transact_done (op := 0x02) (p := []) (ta := none) (tr := none) (s := s)
  refine ⟨_, exec_getfw_of_not_busy hb, ?_⟩
  generalize transact 0x02 [] none none s = u at hterminal hsent hresult ⊢
  have hsent' (hd : s.devstate ≠ .poweredDown) : ∃ a rest, u.trace = s.trace ++
        .write s.params.i2cAddr [0x00, 0x00, 0xFF, 0x02, 0xFE, 0xD4, 0x02, 0x2A, 0x00] a :: rest ∧
      u.cmdOpcode = 0x02 ∧ u.cmdPayload = [] ∧ u.tAck = 1000 ∧ u.tResp = s.params.tRespDefault := by
    obtain ⟨a, rest, htrace, -, hcommand⟩ := hsent hd
    exact ⟨a, rest, htrace, hcommand⟩
  rcases hterminal with hdone | hfailed
  · obtain ⟨hop, hidle⟩ := hresult hdone
    rw [returnUnlessFailed_of_done _ hdone]
    exact ⟨rfl, .inl hdone, hsent', fun hf => absurd hf (not_failed_of_done hdone), fun _ => ⟨hop, hidle,
      fun _ _ _ _ hp => congrArg firmwareOf hp, firmwareOf_of_length_ne⟩⟩
  · rw [returnUnlessFailed_of_failed _ hfailed]
    exact ⟨rfl, .inr hfailed, hsent', fun _ => rfl, fun hd => absurd hd (not_done_of_failed hfailed)⟩

/-! ### `LIST` -/

theorem listTargets_of_some {s : State} {ts : List Target} (h : parseTargets s.draws s.respPayload = some ts) :
    listTargets s = s.delivering (.targets ts) ts.length := by
  rw [listTargets, h]
  rfl

theorem listTargets_of_none {s : State} (h : parseTargets s.draws s.respPayload = none) :
    listTargets s = s.returning (.failed .protocolError) := by
  rw [listTargets, h]

/-- Settles O42: the transaction of the list command, by its end. -/
theorem listReturnsTargetsOrError : Obligations.ListReturnsTargetsOrError := by
  intro s limit hb
  refine ⟨_, exec_list_of_not_busy limit hb, ?_⟩
  have hfits := s.params.listPayload.2
  generalize s.params.listPayload.val = p at hfits ⊢
  have hterminal := transact_terminal (op := 0x4A) (ta := none) (tr := some limit) (startRefusal_of_fits hb hfits)
  have hsent (hd : s.devstate ≠ .poweredDown) := transact_sends 0x4A none (some limit) ⟨hb, hd⟩ hfits
  have hresult := transact_done (op := 0x4A) (p := p) (ta := none) (tr := some limit) (s := s)
  generalize transact 0x4A p none (some limit) s = u at hterminal hsent hresult ⊢
  have hsent' (hd : s.devstate ≠ .poweredDown) : ∃ a rest,
      u.trace = s.trace ++ .write s.params.i2cAddr (wireFrame 0xD4 0x4A p) a :: rest ∧
      u.cmdOpcode = 0x4A ∧ u.tAck = 1000 ∧ u.tResp = limit := by
    obtain ⟨a, rest, htrace, -, hop, -, htimeouts⟩ := hsent hd
    exact ⟨a, rest, htrace, hop, htimeouts⟩
  rcases hterminal with hdone | hfailed
  · obtain ⟨hop, hidle⟩ := hresult hdone
    obtain ⟨r, n, hr⟩ := listTargets_delivers u
    have hnone (h : parseTargets u.draws u.respPayload = none) : r = .failed .protocolError :=
      congrArg State.ret (hr.symm.trans (listTargets_of_none h))
    have hsome (ts : List Target) (h : parseTargets u.draws u.respPayload = some ts) : r = .targets ts :=
      congrArg State.ret (hr.symm.trans (listTargets_of_some h))
    rw [returnUnlessFailed_of_done _ hdone, hr]
    exact ⟨rfl, .inl hdone, hsent', fun hf => absurd hf (not_failed_of_done hdone), fun _ => ⟨hop, hidle, u.draws, hnone,
      hsome, fun _ hzero => hsome [] (congrArg (parseTargets u.draws) hzero)⟩⟩
  · rw [returnUnlessFailed_of_failed _ hfailed]
    exact ⟨rfl, .inr hfailed, hsent', fun _ => rfl, fun hd => absurd hd (not_done_of_failed hfailed)⟩

/-! ### `PWRDOWN` -/

/-- Settles O43: the transaction of the power-down command, by its end. -/
theorem pwrdownSleepsOnSuccess : Obligations.PwrdownSleepsOnSuccess := by
  intro s hb
  have hfits := length_pdMask_le s
  have hterminal := transact_terminal (op := 0x16) (ta := none) (tr := none) (startRefusal_of_fits hb hfits)
  have hsent (hd : s.devstate ≠ .poweredDown) := transact_trace_of_ready 0x16 none none ⟨hb, hd⟩ hfits
  have hasleep (hd : s.devstate = .poweredDown) := transact_of_asleep 0x16 [s.params.pdMask] none none hd
  have hresult := transact_done (op := 0x16) (p := [s.params.pdMask]) (ta := none) (tr := none) (s := s)
  refine ⟨_, exec_pwrdown_of_not_busy hb, ?_⟩
  generalize transact 0x16 [s.params.pdMask] none none s = u at hterminal hsent hasleep hresult ⊢
  have hsent' (hd : s.devstate ≠ .poweredDown) : ∃ a rest,
      u.trace = s.trace ++ .write s.params.i2cAddr (wireFrame 0xD4 0x16 [s.params.pdMask]) a :: rest := by
    obtain ⟨a, rest, htrace, -⟩ := hsent hd
    exact ⟨a, rest, htrace⟩
  have hasleep' (hd : s.devstate = .poweredDown) : u.err = .deviceAsleep ∧ u.trace = s.trace := by
    rw [hasleep hd]
    exact ⟨rfl, rfl⟩
  rcases hterminal with hdone | hfailed
  · obtain ⟨hop, hdown⟩ := hresult hdone
    rw [returnUnlessFailed_of_done _ hdone]
    exact ⟨rfl, .inl hdone, hsent', hasleep', fun hf => absurd hf (not_failed_of_done hdone),
      fun _ => ⟨rfl, hdown, hop⟩⟩
  · rw [returnUnlessFailed_of_failed _ hfailed]
    exact ⟨rfl, .inr hfailed, hsent', hasleep', fun _ => rfl, fun hd => absurd hd (not_done_of_failed hfailed)⟩

/-! ### `SETUP` -/

/-- The end of the first sub-command (43_controller_sequences.md R223). -/
def setupSam (s : State) : State := transact 0x14 s.params.samPayload.val none none s

/-- The end of the second sub-command, where the first is done. -/
def setupBoth (s : State) : State := transact 0x32 s.params.rfPayload.val none none (setupSam s)

theorem setupSam_params (s : State) : (setupSam s).params = s.params :=
  ((State.Extends.refl s).transact 0x14 s.params.samPayload.val none none).params

/-- What `SETUP` completes with (43_controller_sequences.md R223, R225). -/
inductive SetupOutcome (s : State) : State → Prop where
  | samFailed (hsam : (setupSam s).txstate = .failed) :
      SetupOutcome s ((setupSam s).returning (.setupFailed .samConfiguration))
  | rfFailed (hsam : (setupSam s).txstate = .done) (hrf : (setupBoth s).txstate = .failed) :
      SetupOutcome s ((setupBoth s).returning (.setupFailed .rfConfiguration))
  | success (hsam : (setupSam s).txstate = .done) (hrf : (setupBoth s).txstate = .done) :
      SetupOutcome s ((setupBoth s).returning .success)

theorem exec_setup_of_not_busy {s : State} (hb : s.busy = false) : exec .setup s =
    .next (if (setupSam s).isFailed then (setupSam s).returning (.setupFailed .samConfiguration)
      else if (setupBoth s).isFailed then (setupBoth s).returning (.setupFailed .rfConfiguration)
      else (setupBoth s).returning .success) := by
  have hrf : setupRf (setupSam s) = if (setupBoth s).isFailed then
      (setupBoth s).returning (.setupFailed .rfConfiguration) else (setupBoth s).returning .success := by
    rw [setupBoth, ← setupSam_params s]
    rfl
  rw [← hrf, exec, execSetup, startRefusal_of_fits hb s.params.samPayload.2]
  rfl

theorem setupSam_terminal {s : State} (hb : s.busy = false) :
    (setupSam s).txstate = .done ∨ (setupSam s).txstate = .failed :=
  transact_terminal (startRefusal_of_fits hb s.params.samPayload.2)

theorem setupBoth_terminal {s : State} (hb : s.busy = false) :
    (setupBoth s).txstate = .done ∨ (setupBoth s).txstate = .failed := by
  have hsam : (setupSam s).busy = false :=
    runOwn_ends _ _ (timersOk_startTaken (startRefusal_of_fits hb s.params.samPayload.2)) le_rfl
  exact transact_terminal (startRefusal_of_fits hsam s.params.rfPayload.2)

theorem exec_setup_outcome {s : State} (hb : s.busy = false) : ∃ t, exec .setup s = .next t ∧ SetupOutcome s t := by
  refine ⟨_, exec_setup_of_not_busy hb, ?_⟩
  rcases setupSam_terminal hb with hsam | hsam
  · rw [if_neg (not_isFailed_of_done hsam)]
    rcases setupBoth_terminal hb with hrf | hrf
    · rw [if_neg (not_isFailed_of_done hrf)]
      exact .success hsam hrf
    · rw [if_pos (isFailed_of_failed hrf)]
      exact .rfFailed hsam hrf
  · rw [if_pos (isFailed_of_failed hsam)]
    exact .samFailed hsam

/-- Once the first sub-command is done, the block is ready for the second. -/
theorem setupSam_ready {s : State} (hsam : (setupSam s).txstate = .done) : (setupSam s).ready := by
  refine ⟨(busy_eq_false_iff _).2 (by simp [hsam]), ?_⟩
  obtain ⟨-, hidle⟩ := transact_done hsam
  rw [setupSam, hidle]
  decide

/-- Both writes of a `SETUP` whose first sub-command is done. -/
theorem setupBoth_sends {s : State} (hb : s.busy = false) (hsam : (setupSam s).txstate = .done) : ∃ a rest,
    (setupBoth s).trace = s.trace ++ .write s.params.i2cAddr (wireFrame 0xD4 0x14 s.params.samPayload.val) a :: rest ∧
    (setupBoth s).cmdOpcode = 0x32 ∧ (setupBoth s).cmdPayload = s.params.rfPayload.val ∧
    ∃ w, .write s.params.i2cAddr (wireFrame 0xD4 0x32 s.params.rfPayload.val) w ∈ rest := by
  obtain ⟨a, rest, htrace, -⟩ :=
    transact_trace_of_ready 0x14 none none ⟨hb, awake_of_transact_done hsam⟩ s.params.samPayload.2
  obtain ⟨w, rest', htrace', -, hop, hp, -⟩ :=
    transact_sends 0x32 none none (setupSam_ready hsam) s.params.rfPayload.2
  rw [setupSam_params] at htrace'
  refine ⟨a, rest ++ .write s.params.i2cAddr (wireFrame 0xD4 0x32 s.params.rfPayload.val) w :: rest', ?_, hop, hp, w,
    by simp⟩
  rw [setupBoth, htrace', setupSam, htrace, List.append_assoc, List.cons_append]

/-- Settles O41: the three ends of `SETUP`. -/
theorem setupFailsFastOnFirstFailure : Obligations.SetupFailsFastOnFirstFailure := by
  intro s hb
  obtain ⟨t, hx, ho⟩ := exec_setup_outcome hb
  refine ⟨t, hx, ?_⟩
  cases ho with
  | samFailed hsam =>
    refine ⟨⟨fun _ => rfl, fun h => absurd hsam h, fun h => absurd hsam h⟩, fun hd => ?_, fun hd => ?_, .inl rfl,
      nofun, nofun⟩
    · obtain ⟨a, rest, htrace, hwrites, hop, -⟩ := transact_sends 0x14 none none ⟨hb, hd⟩ s.params.samPayload.2
      exact ⟨a, rest, htrace, fun _ => ⟨hsam, hop, hwrites⟩, fun hret => absurd rfl hret⟩
    · rw [setupSam, transact_of_asleep _ _ _ _ hd]
      exact ⟨rfl, rfl, rfl⟩
  | rfFailed hsam hrf =>
    refine ⟨⟨fun h => absurd h (not_failed_of_done hsam), fun _ _ => rfl, fun _ h => absurd hrf h⟩, fun _ => ?_,
      fun hd => absurd hd (awake_of_transact_done hsam), .inr (.inl rfl), fun _ => hrf, nofun⟩
    obtain ⟨a, rest, htrace, hsecond⟩ := setupBoth_sends hb hsam
    exact ⟨a, rest, htrace, nofun, fun _ => hsecond⟩
  | success hsam hrf =>
    obtain ⟨hop, -⟩ := transact_done hrf
    refine ⟨⟨fun h => absurd h (not_failed_of_done hsam), fun _ h => absurd h (not_failed_of_done hrf), fun _ _ => rfl⟩,
      fun _ => ?_, fun hd => absurd hd (awake_of_transact_done hsam), .inr (.inr rfl), nofun, fun _ => ⟨hrf, hop⟩⟩
    obtain ⟨a, rest, htrace, hsecond⟩ := setupBoth_sends hb hsam
    exact ⟨a, rest, htrace, nofun, fun _ => hsecond⟩

/-! ### A chip that answers at once -/

theorem answered_ready {s : State} {op : Byte} (p : Bytes) (tResp : Timer) (reads : List ReadAnswer)
    (writes : List WriteAnswer) (st1 st2 : Byte) (q : Bytes) (hop : op ≠ 0x16) :
    (s.answered op p tResp reads writes st1 st2 q).ready := by
  refine ⟨rfl, ?_⟩
  rw [State.answered, if_neg hop]
  nofun

/-- Settles O44: each transaction is answered at its first polls, and the typed result is the one of success. -/
theorem macrosSucceedWithAnsweringChip : Obligations.MacrosSucceedWithAnsweringChip := by
  intro s st1 st2 reads writes hs h1 h2 hw
  refine ⟨fun ic ver rev support hr => ?_, fun limit q ts hq hts hr => ?_, fun q hq hr => ?_,
    fun st3 st4 q1 q2 w r h3 h4 hq1 hq2 hwrites hreads hr => ?_⟩
  · have ht := transact_of_answering_chip (op := 0x02) (p := []) none hs (Nat.zero_le _)
      (q := [ic, ver, rev, support]) (Nat.le_add_left 4 249) h1 h2 hw hr
    rw [exec_getfw_of_not_busy hs.1, ht, returnUnlessFailed_of_done _ rfl]
    rfl
  · have ht := transact_of_answering_chip (op := 0x4A) (some limit) hs s.params.listPayload.2 hq h1 h2 hw hr
    rw [exec_list_of_not_busy limit hs.1, ht, returnUnlessFailed_of_done _ rfl, listTargets_of_some hts]
    rfl
  · have ht := transact_of_answering_chip (op := 0x16) none hs (length_pdMask_le s) hq h1 h2 hw hr
    rw [exec_pwrdown_of_not_busy hs.1, ht, returnUnlessFailed_of_done _ rfl]
    rfl
  · have hsam : setupSam s = _ :=
      transact_of_answering_chip (op := 0x14) none hs s.params.samPayload.2 hq1 h1 h2 hw hr
    have hready := answered_ready (s := s) (op := 0x14) s.params.samPayload.val s.params.tRespDefault reads writes st1 st2
      q1 (by decide)
    have hsecond := transact_of_answering_chip (op := 0x32) none hready s.params.rfPayload.2 hq2 h3 h4 hwrites hreads
    have hboth : setupBoth s = _ :=
      (congrArg (transact 0x32 s.params.rfPayload.val none none) hsam).trans hsecond
    rw [exec_setup_of_not_busy hs.1, hboth, hsam]
    rfl

end Sys2Proof.Machine
end

section
/-! SUPPORT. A second ACK while the response is awaited (60_exceptions.md R258; log entries 6 and 18). -/

namespace Sys2Proof.Machine

theorem exec_ackFrame (tail : Bytes) (s : State) : exec (.ackFrame tail) s = .next (receive (ackSentinel ++ tail) s) := rfl

theorem decodeFrame_ackSentinel_append (tail : Bytes) : decodeFrame (ackSentinel ++ tail) = .unexpectedAck :=
  (decodeFrame_eq_unexpectedAck_iff _).2 ((isAckBytes_iff_exists_append _).2 ⟨tail, rfl⟩)

/-- Settles O37: nine bytes are decoded and are the ACK, and a shorter buffer is judged by the time. -/
theorem ackFrameInResponseWait : Obligations.AckFrameInResponseWait := by
  intro s tail hd
  have hlen : (ackSentinel ++ tail).length = 6 + tail.length := List.length_append
  have hx {t : State} (ht : receive (ackSentinel ++ tail) s = t) : exec (.ackFrame tail) s = .next t :=
    ht ▸ exec_ackFrame tail s
  have hshort (htail : tail.length < 3) :
      receive (ackSentinel ++ tail) s = notReadyResp (s.heard 263 (ackSentinel ++ tail)) :=
    receive_short_by_respPoll hd (by omega)
  refine ⟨s.readyStatus, s.readyStatus_ready, fun htail => hx ?_, fun htail ht => hx ?_, fun htail ht => hx ?_⟩
  · rw [receive_by_respPoll hd (by omega), decodeFrame_ackSentinel_append]
    rfl
  · exact (hshort htail).trans (notReadyResp_of_lt ht)
  · exact (hshort htail).trans (notReadyResp_of_le ht)

end Sys2Proof.Machine
end

section
/-! SUPPORT. A frame that no poll is due to read stays with the chip (70_reset_and_hazards.md R301; log entry 6). -/

namespace Sys2Proof.Machine

/-- Settles O38: a frame from the chip that no poll is due to read is held for the next read. -/
theorem frameHeldUntilNextRead : Obligations.FrameHeldUntilNextRead := by
  intro s ha hr
  have hheld (b : Bytes) : receive b s = s.present b := receive_of_not_due b ha hr
  refine ⟨s.readyStatus, s.readyStatus_ready, fun tail => ?_, fun i op p tail hi hp => ?_⟩
  · rw [exec_ackFrame, hheld]
    rfl
  · rw [exec_of_responseOf hi hp, hheld]
    rfl

end Sys2Proof.Machine
end
